-- ==== Sys2Proof/Word.lean ====
section
/-! DEFINITION. The word types of the core: a byte (00_scope.md R7) and the two levels of a pin (10_state.md R11). -/

namespace Sys2Proof

/-- A byte; bit 7 is its most significant bit (R7). -/
abbrev Byte := BitVec 8

/-- The level of a pin: the two values 0 and 1 of R11. -/
inductive Level where
  | l0
  | l1
  deriving DecidableEq, Repr, Inhabited

end Sys2Proof
end

