-- ==== Sys2Proof/Syntax.lean ====
section
/-! DEFINITION. What can be asked of the core: the modes, the raster operand, the 28 host operations and the 19 wire
commands (one constructor of `Instr` for each row of spec/opcode_table.json), the typed operand ports they travel on,
and the requests the host makes (30_encoding.md R70 to R75, 20_memory.md R41, 10_state.md R29). -/

namespace Sys2Proof

/-- The modes Full, Fast, Partial, Grayscale, numbered 0 to 3 in this order (R72). `part` is the spec's Partial. -/
inductive Mode where
  | full
  | fast
  | part
  | grayscale
  deriving DecidableEq, Repr, Inhabited

/-- Bits of one pixel of a raster: 1 or 8 (R41). -/
inductive Depth where
  | one
  | eight
  deriving DecidableEq, Repr, Inhabited

/-- A Raster Image `(iw, ih, depth, pix)` (R41). The pixels are listed row by row, top row first, leftmost pixel first:
`pix(x, y)` is entry `x + y * iw`. `Raster.wellFormed` (WellFormed.lean) says that there are `iw * ih` of them and that
a 1-bit pixel is 0 or 1. -/
structure Raster where
  iw : Nat
  ih : Nat
  depth : Depth
  pix : List Byte
  deriving DecidableEq, Repr, Inhabited

/-- A digest: "the result type of CFG.FINGERPRINT" (R71). The spec gives it no width and no form (R226, N15); a natural
number can name any digest of any width. DESIGN CHOICE, safe (log entry 6). -/
abbrev Digest := Nat

/-- The two payloads of wire command 0x3C: 0x01 (full) and 0x80 (partial) (R156). -/
inductive Border where
  | full
  | part
  deriving DecidableEq, Repr, Inhabited

/-- The four payloads of wire command 0x22 (R161): the activation bytes 0xF7 (Full), 0xC7 (Fast and Grayscale),
0xFF (Partial), and the fast-mode flag 0x91. -/
inductive UpdateControl where
  | actFull
  | actFast
  | actPart
  | fastFlag
  deriving DecidableEq, Repr, Inhabited

/-- The instructions of the core: the host operations of R70 and the wire commands of R80, one constructor per row of
spec/opcode_table.json, with the operands of R71 (host operations) and of R151 to R169 (wire commands). -/
inductive Instr where
  -- the framebuffer bit-packer (40_codec.md)
  | encMono (img : Raster)
  | encGray (img : Raster)
  | repack (g : List Byte)
  -- bus primitives (41_bus_primitives.md); an absent poll operand means CFG.POLL_MS
  | reset
  | waitIdle (poll : Option Nat)
  | sendCmd (op : Byte)
  | sendData (b : Byte)
  | sendBulk (bs : List Byte)
  -- register operations (43_register_ops.md) and initialisation (44_init_sequences.md), in the table's order
  | setWindow (x0 : BitVec 10) (y0 : BitVec 16) (x1 : BitVec 10) (y1 : BitVec 16)
  | setCursor (x : BitVec 10) (y : BitVec 16)
  | loadLut
  | initFull
  | initFast
  | initPartial
  | initGrayscale
  | triggerFull
  | triggerFast
  | triggerPartial
  | triggerGrayscale
  | sleep
  -- the refresh policy (45_refresh_policy.md)
  | refreshFull (buf : List Byte) (preferPartial : Bool)
  | refreshFast (buf : List Byte) (preferPartial : Bool)
  | refreshGrayscale (buf : List Byte) (preferPartial : Bool)
  | fpCompute (img : Raster)
  | shouldUpdate (fp : Digest) (force : Bool)
  | updateFull (img : Raster) (preferPartial force : Bool)
  | updateFast (img : Raster) (preferPartial force : Bool)
  | updateGrayscale (img : Raster) (preferPartial force : Bool)
  -- the wire commands (42_wire_commands.md)
  | wireDriverOutputControl
  | wireDataEntryMode
  | wireResetDeepSleep
  | wireSetRamXWindow (x0 x1 : BitVec 10)
  | wireSetRamYWindow (y0 y1 : BitVec 16)
  | wireBorderWaveform (b : Border)
  | wireBoosterSoftStart
  | wireTempSensorSelect
  | wireSetRamXAddrCounter (x : BitVec 10)
  | wireSetRamYAddrCounter (y : BitVec 16)
  | wireDisplayUpdateControl2 (ctl : UpdateControl)
  | wireMasterActivation
  | wireWriteLutRegister
  | wireGateLineEnd
  | wireGateDrivingVoltage
  | wireVcomRegister
  | wireWriteBwRamPlane1 (bs : List Byte)
  | wireWriteBwRamPlane2 (bs : List Byte)
  | wireDeepSleep
  deriving DecidableEq, Repr

/-- The typed operand ports: one port for each type and role of R71, of which an operation reads those its row names.
SET_CURSOR and the one-coordinate wire commands read `x0`, `y0`. How operands travel is not fixed by the spec (R29):
DESIGN CHOICE, safe (log entry 11). The defaults are what stands on a port nothing was put on. -/
structure Args where
  img : Raster := ⟨0, 0, .one, []⟩
  buf : List Byte := []
  poll : Option Nat := none
  byte : Byte := 0
  x0 : BitVec 10 := 0
  y0 : BitVec 16 := 0
  x1 : BitVec 10 := 0
  y1 : BitVec 16 := 0
  fp : Digest := 0
  preferPartial : Bool := false
  force : Bool := false
  border : Border := .full
  ctl : UpdateControl := .actFull
  deriving DecidableEq, Repr

/-- What is asked of the core next. -/
inductive Request where
  /-- the host presents an op byte and operands (R29, R70) -/
  | op (byte : Byte) (args : Args)
  /-- the sequencer is to send one wire command on its own; not on the host's interface (log entry 8) -/
  | wire (opcode : Byte) (args : Args)
  /-- the platform restarts the core: an external event (R280; log entry 12) -/
  | restart
  deriving DecidableEq, Repr

/-- A wire command: one command item and its payload (R74). -/
structure WireCommand where
  op : Byte
  payload : List Byte
  deriving DecidableEq, Repr

/-- One byte on the bus tagged command or data: `C(b)` or `D(b)` (00_scope.md section 5, R31). -/
inductive WireItem where
  | c (b : Byte)
  | d (b : Byte)
  deriving DecidableEq, Repr

end Sys2Proof
end

