-- ==== Sys2Proof/Config.lean ====
section
/-! DEFINITION. The configuration (10_state.md R10 to R14) and the free values. The open parameters are fields of
`Config`, in a form that cannot break a constraint of 00_scope.md R5 (D54: "a model refuses to build it"). The
parameters whose values the spec states stand as tables in Machine/Tables.lean. -/

namespace Sys2Proof

/-- The four control-pin identifiers of the profile, opaque: no rule computes with them (R11). -/
structure PinIds where
  rst : Nat
  dc : Nat
  cs : Nat
  busy : Nat
  deriving DecidableEq, Repr, Inhabited

/-- The open parameters of the core (R10 to R14, the list at the end of 92_eei_decisions.md).
`WIDTH = 8 * (cols + 1)`, `HEIGHT = rows + 1`, `BUSY_MAX_POLLS = pollsAfterFirst + 1`: with these fields every
configuration meets R5 and R14, and every one that meets them is some `Config`. -/
structure Config where
  /-- WIDTH / 8 - 1 (R10, R5: WIDTH a multiple of 8, 8 to 1024) -/
  cols : Fin 128
  /-- HEIGHT - 1 (R10, R5: 1 to 65536) -/
  rows : Fin 65536
  /-- the control-pin identifiers (R11) -/
  pins : PinIds
  /-- the 110 bytes of the waveform table (R13) -/
  lut : Vector Byte 110
  /-- BUSY_MAX_POLLS - 1 (R14: BUSY_MAX_POLLS at least 1) -/
  pollsAfterFirst : Nat
  /-- SLEEP_DELAY_MS (R14) -/
  sleepDelayMs : Nat
  /-- PARTIAL_LIMIT, below 65536 (R14) -/
  partialLimit : BitVec 16
  deriving DecidableEq, Repr, Inhabited

/-- The configuration of the core after a reset: an open parameter list, of which nothing is known (R10 to R14, U10).
DESIGN CHOICE, safe (log entry 1). -/
opaque Config.profile : Config

/-- CFG.FINGERPRINT (R14, R226): some function from rasters to digests, of which nothing else is known (U9).
Free value, safe (log entry 6). -/
opaque Config.fingerprint : Raster → Digest

/-- The level ENV gives at the n-th reading of BUSY that no script answers (R32, U3). Free value (log entry 2). -/
opaque Config.freeBusy : Nat → Level

/-- Whether the n-th SpiWrite that no script answers succeeds (R32, U4). Free value (log entry 2). -/
opaque Config.freeSpi : Nat → Bool

/-- The status of the n-th ModInit that no script answers (R32, U4). Free value (log entry 2). -/
opaque Config.freeModInit : Nat → Nat

end Sys2Proof
end

