-- ==== Sys2Proof/Machine/State.lean ====
section
/-! DEFINITION. The state of the core (10_state.md R15 to R33), the answers it gives (60_exceptions.md R250), the reasons a
step can stop, and the state after reset (R33). -/

namespace Sys2Proof.Machine

/-- `S.st`, the state of the sequencer, numbered 0 to 7 in this order (R16). -/
inductive St where
  | uninitialized
  | resetting
  | awaitingBusyClear
  | ready
  | transmittingCommand
  | transmittingData
  | triggeringRefresh
  | sleeping
  deriving DecidableEq, Repr

/-- The output pins (R11, R26). -/
inductive OutPin where
  | rst
  | dc
  | cs
  deriving DecidableEq, Repr

/-- The bus events of the trace (R31). -/
inductive Event where
  /-- `W(p, l)`: PinWrite -/
  | write (p : OutPin) (l : Level)
  /-- `R(BUSY, l)`: PinRead with the level returned -/
  | readBusy (l : Level)
  /-- `X(bs)`: a SpiWrite that succeeded -/
  | xfer (bs : List Byte)
  /-- `XF(bs)`: a SpiWrite that failed -/
  | xferFail (bs : List Byte)
  /-- `Z(n)`: DelayMs -/
  | delay (n : Nat)
  /-- `MI(s)`: ModInit with its status -/
  | modInit (status : Nat)
  /-- `ME`: ModExit -/
  | modExit
  deriving DecidableEq, Repr

/-- The four errors a body raises, with the information each carries (R250 to R254). -/
inductive Raise where
  /-- ModInit returned status `s` (R251) -/
  | hardwareInit (s : Nat)
  /-- `n` reads of BUSY, all busy (R252) -/
  | deviceNotResponding (n : Nat)
  /-- the transfer of `bs` with DC at `l` failed (R253) -/
  | busTransaction (l : Level) (bs : List Byte)
  /-- the shape of the raster (R254) -/
  | unsupportedImageDimensions (iw ih : Nat)
  deriving DecidableEq, Repr

/-- The value an operation returns beside its class (R71). -/
inductive Value where
  | none
  | bytes (bs : List Byte)
  | planes (p1 p2 : List Byte)
  | digest (d : Digest)
  | bit (b : Bool)
  | transmitted (b : Bool)
  deriving DecidableEq, Repr

/-- The answer to the host: a result class with its information, and on success the value (R250, R73). -/
inductive Answer where
  /-- class OK -/
  | ok (v : Value)
  /-- one of the four errors of the source -/
  | error (e : Raise)
  /-- class Refused: a defined answer with no effect (R255, U12) -/
  | refused
  deriving DecidableEq, Repr

/-- One question ENV answers (R32), as plain data: the answers it gives next, and how many have been asked. When the
script has run out the answer is a free value (log entry 2). MODEL'S OWN. -/
structure Oracle (α : Type) where
  script : List α
  asked : Nat
  deriving DecidableEq, Repr

/-- The state. Every field but the last five is the spec's; `answer` is the host interface's (R29), `inbox`, `busy`,
`spi` and `modInit` are the MODEL'S OWN and stand for what the host and ENV will do. -/
@[ext]
structure State where
  /-- CFG, the Device Profile: "never mutated" (R4); carried so that a statement ranges over every configuration -/
  cfg : Config
  /-- S.st (R16) -/
  st : St
  /-- S.mode, `none` is the spec's None (R17) -/
  mode : Option Mode
  /-- S.lutLoaded (R18) -/
  lutLoaded : Bool
  /-- S.busHeld (R19) -/
  busHeld : Bool
  /-- S.prc (R20) -/
  prc : BitVec 16
  /-- S.orchMode, `none` is the spec's None (R20) -/
  orchMode : Option Mode
  /-- S.fpValid (R21) -/
  fpValid : Bool
  /-- S.fp (R21) -/
  fp : Digest
  /-- pin[RST], `none` is the spec's U (R26) -/
  pinRst : Option Level
  /-- pin[DC], `none` is the spec's U (R26) -/
  pinDc : Option Level
  /-- pin[CS], `none` is the spec's U (R26) -/
  pinCs : Option Level
  /-- T, oldest event first (R31) -/
  trace : List Event
  /-- the answer to the host's last operation, `none` before the first (R29) -/
  answer : Option Answer
  /-- what is asked of the core next, first request first (R29; log entry 3) -/
  inbox : List Request
  /-- ENV: the level each PinRead(BUSY) returns (R32) -/
  busy : Oracle Level
  /-- ENV: whether each SpiWrite succeeds (R32) -/
  spi : Oracle Bool
  /-- ENV: the status each ModInit returns (R32) -/
  modInit : Oracle Nat
  deriving DecidableEq, Repr

/-- Why the machine stops. The spec gives the core no stop: "every host operation ends ... and the core accepts the next
one in every state" (93_implementation_defined.md, after U18). -/
inductive Fault where
  /-- Raised by `step` alone, for a request with an operand outside its type, which R71 says cannot be presented
  (a raster whose pixel list has the wrong length or a 1-bit pixel above 1). Safe: no host can make it. -/
  | operandOutsideType
  deriving DecidableEq, Repr

/-- Why an instruction has no meaning. -/
inductive Refusal where
  /-- Raised by `exec` for an instruction that has no meaning yet; no arm does. Safe. -/
  | notModelled (mnemonic : String)
  deriving DecidableEq, Repr

/-- The state after power-on, before the first operation (R33, R280). `fp` is unspecified there: 0 is a DESIGN CHOICE,
unsafe (log entry 5). The configuration is the open `Config.profile` (log entry 1); nothing has been answered (log
entry 4), nothing is presented (log entry 3) and nothing is known of ENV (log entry 2). -/
def State.reset : State where
  cfg := Config.profile
  st := .uninitialized
  mode := none
  lutLoaded := false
  busHeld := false
  prc := 0
  orchMode := none
  fpValid := false
  fp := 0
  pinRst := none
  pinDc := none
  pinCs := none
  trace := []
  answer := none
  inbox := []
  busy := ⟨[], 0⟩
  spi := ⟨[], 0⟩
  modInit := ⟨[], 0⟩

end Sys2Proof.Machine
end

