-- ==== Sys2Proof/Machine/Flags.lean ====
section
/-! DEFINITION. The session flags, the refresh counter and the cache record, as the rules compute and write them
(10_state.md R17 to R21; 45_refresh_policy.md R221, R224, R227, R230; 43_register_ops.md R184, R188). -/

namespace Sys2Proof.Machine

/-- `SelectMode(m, pp)`: Partial iff it is preferred and the count is below the limit (R221). -/
def selectMode (s : State) (m : Mode) (preferPartial : Bool) : Mode :=
  if preferPartial && decide (s.prc < s.cfg.partialLimit) then .part else m

/-- `UpdateCount(actual)`: Full resets the count, Partial increments it, the others leave it (R224). -/
def updateCount (actual : Mode) (s : State) : State :=
  match actual with
  | .full => { s with prc := 0 }
  | .part => { s with prc := s.prc + 1 }
  | .fast => s
  | .grayscale => s

/-- `S.orchMode <- actual` (R220). -/
def setOrchMode (actual : Mode) (s : State) : State :=
  { s with orchMode := some actual }

/-- `ShouldUpdate(fp, force)` (R227). -/
def shouldUpdate (s : State) (fp : Digest) (force : Bool) : Bool :=
  force || !s.fpValid || fp != s.fp

/-- `Store(fp)` (R230). -/
def storeFingerprint (fp : Digest) (s : State) : State :=
  { s with fp := fp, fpValid := true }

/-- `S.mode <- m`, the last act of an INIT (R200). -/
def setMode (m : Mode) (s : State) : State :=
  { s with mode := some m }

/-- `S.lutLoaded <- 1`, after the last transfer of LOAD_LUT (R184). -/
def markLutLoaded (s : State) : State :=
  { s with lutLoaded := true }

/-- `S.st <- v` (R16). -/
def setSt (v : St) (s : State) : State :=
  { s with st := v }

/-- The writes that end a session: bus released, table not loaded, no mode, Sleeping (R188). -/
def endSession (s : State) : State :=
  { s with busHeld := false, lutLoaded := false, mode := none, st := .sleeping }

end Sys2Proof.Machine
end

