-- ==== Sys2Proof/Machine/Tables.lean ====
section
/-! DEFINITION. Sizes, constants and tables of the core: the fixed bytes of 10_state.md R12, the parameters whose values
R14 states, the per-mode record of 44_init_sequences.md R206, the wire opcodes of 30_encoding.md R80 and the two plane
rules of 40_codec.md R109. "A model keeps them in CFG or in one table" (R306): this is that table. -/

namespace Sys2Proof.Machine

/-! ### Sizes (R10) -/

/-- CFG.WIDTH, `W` (R10). -/
def width (c : Config) : Nat := 8 * (c.cols.val + 1)

/-- CFG.HEIGHT, `H` (R10). -/
def height (c : Config) : Nat := c.rows.val + 1

/-- MONO_LEN = W / 8 * H (R10). -/
def monoLen (c : Config) : Nat := width c / 8 * height c

/-- GRAY_LEN = W / 4 * H (R10). -/
def grayLen (c : Config) : Nat := width c / 4 * height c

/-- BUSY_MAX_POLLS (R14). -/
def busyMaxPolls (c : Config) : Nat := c.pollsAfterFirst + 1

/-! ### Levels (R11) -/

/-- DC 0 selects command. -/
def dcCommand : Level := .l0
/-- DC 1 selects data. -/
def dcData : Level := .l1
/-- CS 0 is selected. -/
def csSelected : Level := .l0
/-- CS 1 is released. -/
def csReleased : Level := .l1
/-- RST 1 is the source's "assert". -/
def rstAssert : Level := .l1
/-- RST 0 is the source's "deassert". -/
def rstDeassert : Level := .l0
/-- BUSY 0 is idle. -/
def busyIdle : Level := .l0

/-! ### Fixed bytes (R12) -/

/-- BOOSTER (R12, R157). -/
def booster : List Byte := [0xAE, 0xC7, 0xC3, 0xC0, 0x80]
/-- DOC_TAIL (R12, R151). -/
def docTail : Byte := 0x02
/-- DATA_ENTRY (R12, R152). -/
def dataEntry : Byte := 0x01
/-- TEMP_SEL (R12, R158). -/
def tempSel : Byte := 0x80
/-- SLEEP_ARG (R12, R169). -/
def sleepArg : Byte := 0x01
/-- MONO_BG, the background value of a monochrome buffer (R12, R105). -/
def monoBg : Byte := 0xFF
/-- BORDER_FULL and BORDER_PARTIAL (R12, R156). -/
def borderByte : Border → Byte
  | .full => 0x01
  | .part => 0x80
/-- The payload of 0x22: ACT and FAST_FLAG (R12, R161). -/
def updateControlByte : UpdateControl → Byte
  | .actFull => 0xF7
  | .actFast => 0xC7
  | .actPart => 0xFF
  | .fastFlag => 0x91
/-- ACT[m], the activation payload of a mode (R12, R83, R186). -/
def activation : Mode → UpdateControl
  | .full => .actFull
  | .fast => .actFast
  | .part => .actPart
  | .grayscale => .actFast

/-! ### Parameters with a stated value (R14; log entry 13) -/

/-- POLL_MS. -/
def pollMs : Nat := 20
/-- RST_T1_MS. -/
def rstT1Ms : Nat := 20
/-- RST_T2_MS. -/
def rstT2Ms : Nat := 2
/-- RST_T3_MS. -/
def rstT3Ms : Nat := 20
/-- MONO_THRESHOLD: an 8-bit pixel below it is black in ENC_MONO. -/
def monoThreshold : Byte := 0x80
/-- MODINIT_OK. -/
def modInitOk : Nat := 0

/-- A window: x0, y0, x1, y1. -/
structure Window where
  x0 : BitVec 10
  y0 : BitVec 16
  x1 : BitVec 10
  y1 : BitVec 16
  deriving DecidableEq, Repr

/-- WIN_FULL = (0, H - 1, W - 1, 0) (R14). -/
def winFull (c : Config) : Window :=
  ⟨0, BitVec.ofNat 16 (height c - 1), BitVec.ofNat 10 (width c - 1), 0⟩
/-- The x of CUR_FULL = (0, 0) (R14). -/
def curFullX : BitVec 10 := 0
/-- The y of CUR_FULL = (0, 0) (R14). -/
def curFullY : BitVec 16 := 0

/-! ### The per-mode record (R206) -/

/-- What differs between the four initialisations (R206), beside the activation byte `activation`. -/
structure ModeRecord where
  fastFlag : Bool
  lutRequired : Bool
  sendsReset : Bool
  border : Border
  deriving DecidableEq, Repr

/-- The table of R206. -/
def modeRecord : Mode → ModeRecord
  | .full => ⟨false, false, true, .full⟩
  | .fast => ⟨true, false, true, .full⟩
  | .part => ⟨false, false, false, .part⟩
  | .grayscale => ⟨true, true, true, .full⟩

/-! ### The waveform table (R13) -/

/-- LUT[i:j], the entries i to j - 1 of the table (R7, R13). -/
def lutSlice (c : Config) (i j : Nat) : List Byte :=
  (c.lut.toList.drop i).take (j - i)

/-! ### The wire opcodes (R80): the one place the model writes them; decoder, encoder, reader and sequences name them -/

def opDriverOutput : Byte := 0x01
def opDataEntry : Byte := 0x11
def opResetDeepSleep : Byte := 0x12
def opXWindow : Byte := 0x44
def opYWindow : Byte := 0x45
def opBorder : Byte := 0x3C
def opBooster : Byte := 0x0C
def opTempSensor : Byte := 0x18
def opXCounter : Byte := 0x4E
def opYCounter : Byte := 0x4F
def opUpdateControl : Byte := 0x22
def opMasterActivation : Byte := 0x20
def opLut : Byte := 0x32
def opGateLineEnd : Byte := 0x03
def opGateVoltage : Byte := 0x04
def opVcom : Byte := 0x2C
def opRamPlane1 : Byte := 0x24
def opRamPlane2 : Byte := 0x26
def opDeepSleep : Byte := 0x10

/-! ### The plane rules (R109) -/

/-- PLANE1_RULE: sample 0xC0 (code 3) gives 0, every other sample 1 (R109). -/
def plane1Rule (s : BitVec 2) : Bool :=
  !(s.getLsbD 1 && s.getLsbD 0)

/-- PLANE2_RULE: samples 0xC0 and 0x80 (codes 3 and 2) give 0, the others 1 (R109). -/
def plane2Rule (s : BitVec 2) : Bool :=
  !(s.getLsbD 1)

end Sys2Proof.Machine
end

