-- ==== Sys2Proof/WellFormed.lean ====
section
/-! DEFINITION. Which operands are inside their types (30_encoding.md R71, 20_memory.md R41): "An operand outside its
type cannot be presented". Every type but Raster is exact already (BitVec, Bool, Nat, a list of bytes). -/

namespace Sys2Proof

/-- A raster holds exactly `iw * ih` pixels (R40, R41). -/
def Raster.sized (r : Raster) : Bool :=
  r.pix.length == r.iw * r.ih

/-- A pixel of a 1-bit raster is 0 or 1; an 8-bit pixel is any byte (R41). -/
def Raster.depthKept (r : Raster) : Bool :=
  match r.depth with
  | .one => r.pix.all (fun v => v == 0 || v == 1)
  | .eight => true

/-- A raster inside its type (R41). -/
def Raster.wellFormed (r : Raster) : Bool :=
  r.sized && r.depthKept

/-- Every operand of the instruction is inside its type (R71). -/
def Instr.wellFormed (i : Instr) : Bool :=
  match i with
  | .encMono img => img.wellFormed
  | .encGray img => img.wellFormed
  | .repack _ => true
  | .reset => true
  | .waitIdle _ => true
  | .sendCmd _ => true
  | .sendData _ => true
  | .sendBulk _ => true
  | .setWindow _ _ _ _ => true
  | .setCursor _ _ => true
  | .loadLut => true
  | .initFull => true
  | .initFast => true
  | .initPartial => true
  | .initGrayscale => true
  | .triggerFull => true
  | .triggerFast => true
  | .triggerPartial => true
  | .triggerGrayscale => true
  | .sleep => true
  | .refreshFull _ _ => true
  | .refreshFast _ _ => true
  | .refreshGrayscale _ _ => true
  | .fpCompute img => img.wellFormed
  | .shouldUpdate _ _ => true
  | .updateFull img _ _ => img.wellFormed
  | .updateFast img _ _ => img.wellFormed
  | .updateGrayscale img _ _ => img.wellFormed
  | .wireDriverOutputControl => true
  | .wireDataEntryMode => true
  | .wireResetDeepSleep => true
  | .wireSetRamXWindow _ _ => true
  | .wireSetRamYWindow _ _ => true
  | .wireBorderWaveform _ => true
  | .wireBoosterSoftStart => true
  | .wireTempSensorSelect => true
  | .wireSetRamXAddrCounter _ => true
  | .wireSetRamYAddrCounter _ => true
  | .wireDisplayUpdateControl2 _ => true
  | .wireMasterActivation => true
  | .wireWriteLutRegister => true
  | .wireGateLineEnd => true
  | .wireGateDrivingVoltage => true
  | .wireVcomRegister => true
  | .wireWriteBwRamPlane1 _ => true
  | .wireWriteBwRamPlane2 _ => true
  | .wireDeepSleep => true

end Sys2Proof
end

