-- ==== Sys2Proof/Decode.lean ====
section
/-! DEFINITION. Decoding and encoding (30_encoding.md). Three parts: op bytes of the host (R70 to R72, R85, R86), the wire
commands byte by byte (R74 to R84), and the numbering of spec/opcode_table.json. Each decoder is total and rejects by
name; each encoder is written from the same tables. -/

namespace Sys2Proof

/-- Why a byte names no instruction. -/
inductive Reject where
  /-- an op byte with bit 7 clear (R85) -/
  | bit7Clear
  /-- `opnum` 0 or 19 to 31 (R85) -/
  | noSuchOpnum
  /-- `m` not 0 in an operation that takes no mode (R85) -/
  | modeBitsSet
  /-- `m = 2` in REFRESH or UPDATE: Partial is never asked for by name (R72, R85) -/
  | partialByName
  /-- a wire opcode that is none of the nineteen (R80, R87) -/
  | notAWireOpcode
  deriving DecidableEq, Repr

/-- What a decoder answers: an instruction, or the reason why there is none. -/
inductive Decoded where
  | instr (i : Instr)
  | reject (r : Reject)
  deriving DecidableEq, Repr

/-! ### Op bytes -/

/-- An operation that takes no mode: the mode field must be 0 (R70, R85). -/
def decodeNoMode (m : BitVec 2) (i : Instr) : Decoded :=
  if m = 0 then .instr i else .reject .modeBitsSet

/-- Chooses by the mode field, 0 Full, 1 Fast, 2 Partial, 3 Grayscale (R72). -/
def decodeByMode (m : BitVec 2) (full fast part grayscale : Decoded) : Decoded :=
  match m.toNat with
  | 0 => full
  | 1 => fast
  | 2 => part
  | _ => grayscale

/-- The operation numbers of R70, with the operands each reads off its ports (R71). -/
def decodeOpnum (opnum : BitVec 5) (m : BitVec 2) (a : Args) : Decoded :=
  match opnum.toNat with
  | 1 => decodeNoMode m (.encMono a.img)
  | 2 => decodeNoMode m (.encGray a.img)
  | 3 => decodeNoMode m (.repack a.buf)
  | 4 => decodeNoMode m .reset
  | 5 => decodeNoMode m (.waitIdle a.poll)
  | 6 => decodeNoMode m (.sendCmd a.byte)
  | 7 => decodeNoMode m (.sendData a.byte)
  | 8 => decodeNoMode m (.sendBulk a.buf)
  | 9 => decodeNoMode m (.setWindow a.x0 a.y0 a.x1 a.y1)
  | 10 => decodeNoMode m (.setCursor a.x0 a.y0)
  | 11 => decodeNoMode m .loadLut
  | 12 => decodeByMode m (.instr .initFull) (.instr .initFast) (.instr .initPartial) (.instr .initGrayscale)
  | 13 =>
    decodeByMode m (.instr .triggerFull) (.instr .triggerFast) (.instr .triggerPartial) (.instr .triggerGrayscale)
  | 14 => decodeNoMode m .sleep
  | 15 =>
    decodeByMode m (.instr (.refreshFull a.buf a.preferPartial)) (.instr (.refreshFast a.buf a.preferPartial))
      (.reject .partialByName) (.instr (.refreshGrayscale a.buf a.preferPartial))
  | 16 => decodeNoMode m (.fpCompute a.img)
  | 17 => decodeNoMode m (.shouldUpdate a.fp a.force)
  | 18 =>
    decodeByMode m (.instr (.updateFull a.img a.preferPartial a.force)) (.instr (.updateFast a.img a.preferPartial a.force))
      (.reject .partialByName) (.instr (.updateGrayscale a.img a.preferPartial a.force))
  | _ => .reject .noSuchOpnum

/-- Decodes an op byte: bit 7 is 1, bits 6 to 2 are `opnum`, bits 1 to 0 the mode field (R70). -/
def decodeOp (byte : Byte) (a : Args) : Decoded :=
  if byte.getLsbD 7 then decodeOpnum (byte.extractLsb' 2 5) (byte.extractLsb' 0 2) a
  else .reject .bit7Clear

/-! ### Wire opcodes -/

/-- The rows of the opcode map, with the operands each payload is cut from (R80, R151 to R169). -/
def wireRows (a : Args) : List (Byte × Instr) :=
  [(Machine.opDriverOutput, .wireDriverOutputControl),
    (Machine.opDataEntry, .wireDataEntryMode),
    (Machine.opResetDeepSleep, .wireResetDeepSleep),
    (Machine.opXWindow, .wireSetRamXWindow a.x0 a.x1),
    (Machine.opYWindow, .wireSetRamYWindow a.y0 a.y1),
    (Machine.opBorder, .wireBorderWaveform a.border),
    (Machine.opBooster, .wireBoosterSoftStart),
    (Machine.opTempSensor, .wireTempSensorSelect),
    (Machine.opXCounter, .wireSetRamXAddrCounter a.x0),
    (Machine.opYCounter, .wireSetRamYAddrCounter a.y0),
    (Machine.opUpdateControl, .wireDisplayUpdateControl2 a.ctl),
    (Machine.opMasterActivation, .wireMasterActivation),
    (Machine.opLut, .wireWriteLutRegister),
    (Machine.opGateLineEnd, .wireGateLineEnd),
    (Machine.opGateVoltage, .wireGateDrivingVoltage),
    (Machine.opVcom, .wireVcomRegister),
    (Machine.opRamPlane1, .wireWriteBwRamPlane1 a.buf),
    (Machine.opRamPlane2, .wireWriteBwRamPlane2 a.buf),
    (Machine.opDeepSleep, .wireDeepSleep)]

/-- Decodes a wire opcode (R80). -/
def decodeWire (opcode : Byte) (a : Args) : Decoded :=
  match (wireRows a).lookup opcode with
  | some i => .instr i
  | none => .reject .notAWireOpcode

/-- What a request decodes to: an op byte by the host's table, a wire opcode by the panel's. The two number spaces
never meet (30_encoding.md, introduction). A restart is no instruction. -/
def decodeRequest (r : Request) : Option Decoded :=
  match r with
  | .op byte a => some (decodeOp byte a)
  | .wire opcode a => some (decodeWire opcode a)
  | .restart => none

/-! ### The encoder of requests -/

/-- `0x80 | (opnum << 2) | m` (R70). -/
def opByte (opnum : Nat) (m : Nat) : Byte :=
  0x80 ||| (BitVec.ofNat 8 opnum <<< 2) ||| BitVec.ofNat 8 m

/-- The request that asks for an instruction: its op byte or wire opcode, its operands on their ports, nothing on the
others (R70 to R72, R80). -/
def encode (i : Instr) : Request :=
  match i with
  | .encMono img => .op (opByte 1 0) { img := img }
  | .encGray img => .op (opByte 2 0) { img := img }
  | .repack g => .op (opByte 3 0) { buf := g }
  | .reset => .op (opByte 4 0) {}
  | .waitIdle poll => .op (opByte 5 0) { poll := poll }
  | .sendCmd op => .op (opByte 6 0) { byte := op }
  | .sendData b => .op (opByte 7 0) { byte := b }
  | .sendBulk bs => .op (opByte 8 0) { buf := bs }
  | .setWindow x0 y0 x1 y1 => .op (opByte 9 0) { x0 := x0, y0 := y0, x1 := x1, y1 := y1 }
  | .setCursor x y => .op (opByte 10 0) { x0 := x, y0 := y }
  | .loadLut => .op (opByte 11 0) {}
  | .initFull => .op (opByte 12 0) {}
  | .initFast => .op (opByte 12 1) {}
  | .initPartial => .op (opByte 12 2) {}
  | .initGrayscale => .op (opByte 12 3) {}
  | .triggerFull => .op (opByte 13 0) {}
  | .triggerFast => .op (opByte 13 1) {}
  | .triggerPartial => .op (opByte 13 2) {}
  | .triggerGrayscale => .op (opByte 13 3) {}
  | .sleep => .op (opByte 14 0) {}
  | .refreshFull buf pp => .op (opByte 15 0) { buf := buf, preferPartial := pp }
  | .refreshFast buf pp => .op (opByte 15 1) { buf := buf, preferPartial := pp }
  | .refreshGrayscale buf pp => .op (opByte 15 3) { buf := buf, preferPartial := pp }
  | .fpCompute img => .op (opByte 16 0) { img := img }
  | .shouldUpdate fp force => .op (opByte 17 0) { fp := fp, force := force }
  | .updateFull img pp force => .op (opByte 18 0) { img := img, preferPartial := pp, force := force }
  | .updateFast img pp force => .op (opByte 18 1) { img := img, preferPartial := pp, force := force }
  | .updateGrayscale img pp force => .op (opByte 18 3) { img := img, preferPartial := pp, force := force }
  | .wireDriverOutputControl => .wire Machine.opDriverOutput {}
  | .wireDataEntryMode => .wire Machine.opDataEntry {}
  | .wireResetDeepSleep => .wire Machine.opResetDeepSleep {}
  | .wireSetRamXWindow x0 x1 => .wire Machine.opXWindow { x0 := x0, x1 := x1 }
  | .wireSetRamYWindow y0 y1 => .wire Machine.opYWindow { y0 := y0, y1 := y1 }
  | .wireBorderWaveform b => .wire Machine.opBorder { border := b }
  | .wireBoosterSoftStart => .wire Machine.opBooster {}
  | .wireTempSensorSelect => .wire Machine.opTempSensor {}
  | .wireSetRamXAddrCounter x => .wire Machine.opXCounter { x0 := x }
  | .wireSetRamYAddrCounter y => .wire Machine.opYCounter { y0 := y }
  | .wireDisplayUpdateControl2 ctl => .wire Machine.opUpdateControl { ctl := ctl }
  | .wireMasterActivation => .wire Machine.opMasterActivation {}
  | .wireWriteLutRegister => .wire Machine.opLut {}
  | .wireGateLineEnd => .wire Machine.opGateLineEnd {}
  | .wireGateDrivingVoltage => .wire Machine.opGateVoltage {}
  | .wireVcomRegister => .wire Machine.opVcom {}
  | .wireWriteBwRamPlane1 bs => .wire Machine.opRamPlane1 { buf := bs }
  | .wireWriteBwRamPlane2 bs => .wire Machine.opRamPlane2 { buf := bs }
  | .wireDeepSleep => .wire Machine.opDeepSleep {}

/-! ### The bytes of a wire command -/

/-- lo8(v) = v & 0xFF (R8). -/
def lo8 {n : Nat} (v : BitVec n) : Byte := v.setWidth 8

/-- hi8(v) = (v >> 8) & 0xFF (R8). -/
def hi8 {n : Nat} (v : BitVec n) : Byte := (v >>> 8).setWidth 8

/-- hi2(v) = (v >> 8) & 0x03 (R8). -/
def hi2 {n : Nat} (v : BitVec n) : Byte := (v >>> 8).setWidth 8 &&& 0x03

/-- H - 1 as a 16-bit field (R78). -/
def heightField (c : Config) : BitVec 16 := BitVec.ofNat 16 (Machine.height c - 1)

/-- 0x01 Driver output control, W3: `[lo8(H - 1), hi8(H - 1), 0x02]` (R78, R151). -/
def cmdDriverOutput (c : Config) : WireCommand :=
  ⟨Machine.opDriverOutput, [lo8 (heightField c), hi8 (heightField c), Machine.docTail]⟩

/-- 0x11 Data entry mode, W1 (R152). -/
def cmdDataEntry : WireCommand := ⟨Machine.opDataEntry, [Machine.dataEntry]⟩

/-- 0x12 Reset deep-sleep, W0 (R153). -/
def cmdResetDeepSleep : WireCommand := ⟨Machine.opResetDeepSleep, []⟩

/-- 0x44 Set RAM X window, W4 (R76, R154). -/
def cmdXWindow (x0 x1 : BitVec 10) : WireCommand :=
  ⟨Machine.opXWindow, [lo8 x0, hi2 x0, lo8 x1, hi2 x1]⟩

/-- 0x45 Set RAM Y window, W4 (R77, R155). -/
def cmdYWindow (y0 y1 : BitVec 16) : WireCommand :=
  ⟨Machine.opYWindow, [lo8 y0, hi8 y0, lo8 y1, hi8 y1]⟩

/-- 0x3C Border waveform, W1 (R156). -/
def cmdBorder (b : Border) : WireCommand := ⟨Machine.opBorder, [Machine.borderByte b]⟩

/-- 0x0C Booster soft-start, W5 (R157). -/
def cmdBooster : WireCommand := ⟨Machine.opBooster, Machine.booster⟩

/-- 0x18 Temp sensor select, W1 (R158). -/
def cmdTempSensor : WireCommand := ⟨Machine.opTempSensor, [Machine.tempSel]⟩

/-- 0x4E Set RAM X addr counter, W2 (R76, R159). -/
def cmdXCounter (x : BitVec 10) : WireCommand := ⟨Machine.opXCounter, [lo8 x, hi2 x]⟩

/-- 0x4F Set RAM Y addr counter, W2 (R77, R160). -/
def cmdYCounter (y : BitVec 16) : WireCommand := ⟨Machine.opYCounter, [lo8 y, hi8 y]⟩

/-- 0x22 Display update control 2, W1 (R83, R161). -/
def cmdUpdateControl (u : UpdateControl) : WireCommand :=
  ⟨Machine.opUpdateControl, [Machine.updateControlByte u]⟩

/-- 0x20 Master activation, W0 (R162). -/
def cmdMasterActivation : WireCommand := ⟨Machine.opMasterActivation, []⟩

/-- 0x32 Write LUT register, W105: `LUT[0:105]` (R84, R163). -/
def cmdLut (c : Config) : WireCommand := ⟨Machine.opLut, Machine.lutSlice c 0 105⟩

/-- 0x03 Gate line end, W1: `LUT[105]` (R84, R164). -/
def cmdGateLineEnd (c : Config) : WireCommand := ⟨Machine.opGateLineEnd, Machine.lutSlice c 105 106⟩

/-- 0x04 Gate driving voltage, W3: `LUT[106:109]` (R78, R84, R165). -/
def cmdGateVoltage (c : Config) : WireCommand := ⟨Machine.opGateVoltage, Machine.lutSlice c 106 109⟩

/-- 0x2C VCOM register, W1: `LUT[109]` (R84, R166). -/
def cmdVcom (c : Config) : WireCommand := ⟨Machine.opVcom, Machine.lutSlice c 109 110⟩

/-- 0x24 Write B/W RAM (plane 1), WN (R167). -/
def cmdRamPlane1 (bs : List Byte) : WireCommand := ⟨Machine.opRamPlane1, bs⟩

/-- 0x26 Write B/W RAM (plane 2), WN (R168). -/
def cmdRamPlane2 (bs : List Byte) : WireCommand := ⟨Machine.opRamPlane2, bs⟩

/-- 0x10 Deep sleep, W1 (R169). -/
def cmdDeepSleep : WireCommand := ⟨Machine.opDeepSleep, [Machine.sleepArg]⟩

/-- The wire command an instruction names, byte by byte; none for a host operation (R75 to R84). -/
def wireCommandOf (c : Config) (i : Instr) : Option WireCommand :=
  match i with
  | .wireDriverOutputControl => some (cmdDriverOutput c)
  | .wireDataEntryMode => some cmdDataEntry
  | .wireResetDeepSleep => some cmdResetDeepSleep
  | .wireSetRamXWindow x0 x1 => some (cmdXWindow x0 x1)
  | .wireSetRamYWindow y0 y1 => some (cmdYWindow y0 y1)
  | .wireBorderWaveform b => some (cmdBorder b)
  | .wireBoosterSoftStart => some cmdBooster
  | .wireTempSensorSelect => some cmdTempSensor
  | .wireSetRamXAddrCounter x => some (cmdXCounter x)
  | .wireSetRamYAddrCounter y => some (cmdYCounter y)
  | .wireDisplayUpdateControl2 u => some (cmdUpdateControl u)
  | .wireMasterActivation => some cmdMasterActivation
  | .wireWriteLutRegister => some (cmdLut c)
  | .wireGateLineEnd => some (cmdGateLineEnd c)
  | .wireGateDrivingVoltage => some (cmdGateVoltage c)
  | .wireVcomRegister => some (cmdVcom c)
  | .wireWriteBwRamPlane1 bs => some (cmdRamPlane1 bs)
  | .wireWriteBwRamPlane2 bs => some (cmdRamPlane2 bs)
  | .wireDeepSleep => some cmdDeepSleep
  | .encMono _ => none
  | .encGray _ => none
  | .repack _ => none
  | .reset => none
  | .waitIdle _ => none
  | .sendCmd _ => none
  | .sendData _ => none
  | .sendBulk _ => none
  | .setWindow _ _ _ _ => none
  | .setCursor _ _ => none
  | .loadLut => none
  | .initFull => none
  | .initFast => none
  | .initPartial => none
  | .initGrayscale => none
  | .triggerFull => none
  | .triggerFast => none
  | .triggerPartial => none
  | .triggerGrayscale => none
  | .sleep => none
  | .refreshFull _ _ => none
  | .refreshFast _ _ => none
  | .refreshGrayscale _ _ => none
  | .fpCompute _ => none
  | .shouldUpdate _ _ => none
  | .updateFull _ _ _ => none
  | .updateFast _ _ _ => none
  | .updateGrayscale _ _ _ => none

/-- The wire items of a command: its opcode as a command item, then its payload as data items (R74). -/
def wireItems (w : WireCommand) : List WireItem :=
  .c w.op :: w.payload.map .d

/-! ### Reading wire commands back (R79) -/

/-- Cuts wire items at each C item (R79): the data items before the first command, and the commands. -/
def cutItems : List WireItem → List Byte × List WireCommand
  | [] => ([], [])
  | .d b :: rest => (b :: (cutItems rest).1, (cutItems rest).2)
  | .c op :: rest => ([], ⟨op, (cutItems rest).1⟩ :: (cutItems rest).2)

/-- An X value from its two bytes; bits 7 to 2 of the high byte must be 0 (R76). -/
def joinX (lo hi : Byte) : Option (BitVec 10) :=
  if hi >>> 2 = 0 then some (hi.setWidth 2 ++ lo) else none

/-- A Y value from its two bytes (R77). -/
def joinY (lo hi : Byte) : BitVec 16 := hi ++ lo

/-- Both values of an X window (R76). -/
def parseXWindow (p : List Byte) : Option Instr :=
  match p with
  | [a, b, c, d] => (joinX a b).bind fun x0 => (joinX c d).map fun x1 => .wireSetRamXWindow x0 x1
  | _ => none

/-- Both values of a Y window (R77). -/
def parseYWindow (p : List Byte) : Option Instr :=
  match p with
  | [a, b, c, d] => some (.wireSetRamYWindow (joinY a b) (joinY c d))
  | _ => none

/-- The value of an X address counter (R76). -/
def parseXCounter (p : List Byte) : Option Instr :=
  match p with
  | [a, b] => (joinX a b).map .wireSetRamXAddrCounter
  | _ => none

/-- The value of a Y address counter (R77). -/
def parseYCounter (p : List Byte) : Option Instr :=
  match p with
  | [a, b] => some (.wireSetRamYAddrCounter (joinY a b))
  | _ => none

/-- The border byte (R156). -/
def parseBorder (p : List Byte) : Option Instr :=
  if p = [Machine.borderByte .full] then some (.wireBorderWaveform .full)
  else if p = [Machine.borderByte .part] then some (.wireBorderWaveform .part)
  else none

/-- The payload of 0x22 (R161). -/
def parseUpdateControl (p : List Byte) : Option Instr :=
  if p = [Machine.updateControlByte .actFull] then some (.wireDisplayUpdateControl2 .actFull)
  else if p = [Machine.updateControlByte .actFast] then some (.wireDisplayUpdateControl2 .actFast)
  else if p = [Machine.updateControlByte .actPart] then some (.wireDisplayUpdateControl2 .actPart)
  else if p = [Machine.updateControlByte .fastFlag] then some (.wireDisplayUpdateControl2 .fastFlag)
  else none

/-- A command whose payload has one value (R75, R78, R84). -/
def parseFixed (p want : List Byte) (i : Instr) : Option Instr :=
  if p = want then some i else none

/-- A frame command: any packed buffer of MONO_LEN bytes (R75). -/
def parseFrame (c : Config) (p : List Byte) (i : Instr) : Option Instr :=
  if p.length = Machine.monoLen c then some i else none

/-- The readers of the payloads `p`, by opcode (R75 to R84). -/
def payloadReaders (c : Config) (p : List Byte) : List (Byte × Option Instr) :=
  [(Machine.opDriverOutput,
      parseFixed p
        [BitVec.ofNat 8 ((Machine.height c - 1) % 256), BitVec.ofNat 8 ((Machine.height c - 1) / 256), Machine.docTail]
        .wireDriverOutputControl),
    (Machine.opDataEntry, parseFixed p [Machine.dataEntry] .wireDataEntryMode),
    (Machine.opResetDeepSleep, parseFixed p [] .wireResetDeepSleep),
    (Machine.opXWindow, parseXWindow p),
    (Machine.opYWindow, parseYWindow p),
    (Machine.opBorder, parseBorder p),
    (Machine.opBooster, parseFixed p Machine.booster .wireBoosterSoftStart),
    (Machine.opTempSensor, parseFixed p [Machine.tempSel] .wireTempSensorSelect),
    (Machine.opXCounter, parseXCounter p),
    (Machine.opYCounter, parseYCounter p),
    (Machine.opUpdateControl, parseUpdateControl p),
    (Machine.opMasterActivation, parseFixed p [] .wireMasterActivation),
    (Machine.opLut, parseFixed p (c.lut.toList.take 105) .wireWriteLutRegister),
    (Machine.opGateLineEnd, parseFixed p [c.lut[105]] .wireGateLineEnd),
    (Machine.opGateVoltage, parseFixed p [c.lut[106], c.lut[107], c.lut[108]] .wireGateDrivingVoltage),
    (Machine.opVcom, parseFixed p [c.lut[109]] .wireVcomRegister),
    (Machine.opRamPlane1, parseFrame c p (.wireWriteBwRamPlane1 p)),
    (Machine.opRamPlane2, parseFrame c p (.wireWriteBwRamPlane2 p)),
    (Machine.opDeepSleep, parseFixed p [Machine.sleepArg] .wireDeepSleep)]

/-- Reads a wire command back as the instruction it is, its payload checked byte by byte; none for an opcode or a payload
outside the table. -/
def parseWire (c : Config) (w : WireCommand) : Option Instr :=
  ((payloadReaders c w.payload).lookup w.op).join

/-! ### The numbering of spec/opcode_table.json -/

/-- The request whose byte is `w`, nothing on its operand ports: a byte with bit 7 set is an op byte, one with bit 7
clear a wire opcode (30_encoding.md, introduction; log entry 11). -/
def requestOfWord (w : Nat) : Request :=
  if (BitVec.ofNat 8 w).getLsbD 7 then .op (BitVec.ofNat 8 w) {} else .wire (BitVec.ofNat 8 w) {}

/-- What a decoder's answer is as an option. -/
def Decoded.toOption (d : Decoded) : Option Instr :=
  match d with
  | .instr i => some i
  | .reject _ => none

/-- The instruction the decoder reads from a word of the table: every row has 8 bits (R70, R74), and the operands, which
the table gives no bits, are all absent. -/
def decodeTableWord (nbits w : Nat) : Option Instr :=
  if nbits = 8 ∧ w < 256 then (decodeRequest (requestOfWord w)).bind Decoded.toOption else none

end Sys2Proof
end

