-- ==== Sys2Proof/Machine/Operands.lean ====
section
/-! DEFINITION. Reading operands: the orientation of a raster, the panel-space image and the cuts of a pixel
(40_codec.md R101 to R109, 20_memory.md R41, R49), the poll operand (R71) and the operand preconditions that the wrapper
checks (60_exceptions.md R255 (c) to (e)). -/

namespace Sys2Proof.Machine

/-- Identity or Transposed (R101). -/
inductive Orientation where
  | identity
  | transposed
  deriving DecidableEq, Repr

/-- The orientation of a raster; none when the raster is invalid. Identity is tested first (R101). -/
def orientation (c : Config) (img : Raster) : Option Orientation :=
  if img.iw = width c ∧ img.ih = height c then some .identity
  else if img.iw = height c ∧ img.ih = width c then some .transposed
  else none

/-- `MemRead(RASTER, (x, y), 1)`: the pixel at column `x`, row `y` (R41). The 0 stands for a pixel that a raster inside
its type has (log entry 7). -/
def rasterPixel (img : Raster) (x y : Nat) : Byte :=
  img.pix.getD (x + y * img.iw) 0

/-- `P(img, px, py)`: the raster pixel that lands at panel position `(px, py)` (R102, R103). -/
def panelPixel (c : Config) (o : Orientation) (img : Raster) (px py : Nat) : Byte :=
  match o with
  | .identity => rasterPixel img px py
  | .transposed => rasterPixel img (height c - 1 - py) px

/-- `white(img, v)`: true when the pixel is not black (R104). -/
def white (img : Raster) (v : Byte) : Bool :=
  match img.depth with
  | .one => v != 0
  | .eight => monoThreshold ≤ v

/-- `lum(img, v)`: an 8-bit luminance; a 1-bit pixel widens to 0x00 or 0xFF (R49, R107). -/
def lum (img : Raster) (v : Byte) : Byte :=
  match img.depth with
  | .one => if v = 0 then 0x00 else 0xFF
  | .eight => v

/-- `code(v)`: the 2-bit code of a luminance (R106). -/
def grayCode (v : Byte) : BitVec 2 :=
  if v = 0xC0 then 0b10 else if v = 0x80 then 0b01 else v.extractLsb' 6 2

/-- `s(b, j)`: sample `j` of a grayscale byte, sample 0 in bits 7 and 6 (R108). -/
def sample (b : Byte) (j : Nat) : BitVec 2 :=
  (b >>> (6 - 2 * j)).setWidth 2

/-- The poll operand of WAIT_IDLE: CFG.POLL_MS when absent (R71, R141). -/
def pollOperand (poll : Option Nat) : Nat :=
  poll.getD pollMs

/-- The buffer length a content type needs, and no partial preference for grayscale (R222). -/
def refreshAccepted (c : Config) (m : Mode) (buf : List Byte) (preferPartial : Bool) : Bool :=
  match m with
  | .grayscale => buf.length == grayLen c && !preferPartial
  | _ => buf.length == monoLen c

/-- UPDATE.Grayscale with preferPartial is Refused (R229). -/
def updateAccepted (m : Mode) (preferPartial : Bool) : Bool :=
  !(m == .grayscale && preferPartial)

end Sys2Proof.Machine
end

