-- ==== Sys2Proof/Machine/Ops.lean ====
section
/-! DEFINITION. The named operations every meaning is made of: ENV's answers (10_state.md R32), the six bus primitives
(R30), the helpers of 41_bus_primitives.md, the driver's steps as data and their running, and the wrapper HostOp with the
abort as the ONE way an error is taken (R139, R257). -/

namespace Sys2Proof.Machine

/-! ### ENV (R32) -/

/-- The next answer to a question: the script's, or a free value when the script has run out (log entry 2). -/
def oracleNext {α : Type} (free : Nat → α) (o : Oracle α) : α :=
  match o.script with
  | a :: _ => a
  | [] => free o.asked

/-- The question after one has been answered. -/
def oracleAdvance {α : Type} (o : Oracle α) : Oracle α :=
  ⟨o.script.tail, o.asked + 1⟩

/-- The next `n` answers. -/
def oracleAnswers {α : Type} (free : Nat → α) : Nat → Oracle α → List α
  | 0, _ => []
  | n + 1, o => oracleNext free o :: oracleAnswers free n (oracleAdvance o)

/-- The question after `n` have been answered. -/
def oracleSkip {α : Type} : Nat → Oracle α → Oracle α
  | 0, o => o
  | n + 1, o => oracleSkip n (oracleAdvance o)

/-! ### The bus primitives (R30) -/

/-- Appends an event to `T` (R31). -/
def emit (e : Event) (s : State) : State :=
  { s with trace := s.trace ++ [e] }

/-- Sets a latch. -/
def setLatch (p : OutPin) (v : Option Level) (s : State) : State :=
  match p with
  | .rst => { s with pinRst := v }
  | .dc => { s with pinDc := v }
  | .cs => { s with pinCs := v }

/-- All three latches to `U` (R26). -/
def clearLatches (s : State) : State :=
  { s with pinRst := none, pinDc := none, pinCs := none }

/-- `PinWrite(p, l)`: event `W(p, l)`, `pin[p] <- l` (R30). -/
def pinWrite (p : OutPin) (l : Level) (s : State) : State :=
  setLatch p (some l) (emit (.write p l) s)

/-- The level the next `PinRead(BUSY)` returns (R30, R32). -/
def busyLevel (s : State) : Level :=
  oracleNext Config.freeBusy s.busy

/-- The state after `PinRead(BUSY)`: event `R(BUSY, l)` (R30). -/
def pinReadBusy (s : State) : State :=
  { emit (.readBusy (busyLevel s)) s with busy := oracleAdvance s.busy }

/-- Whether the next `SpiWrite` succeeds (R30, R32). -/
def spiSucceeds (s : State) : Bool :=
  oracleNext Config.freeSpi s.spi

/-- The state after `SpiWrite(bs)`: event `X(bs)` or `XF(bs)` (R30). -/
def spiWrite (bs : List Byte) (s : State) : State :=
  { emit (if spiSucceeds s then .xfer bs else .xferFail bs) s with spi := oracleAdvance s.spi }

/-- `DelayMs(n)`: event `Z(n)` (R30). -/
def delayMs (n : Nat) (s : State) : State :=
  emit (.delay n) s

/-- The status the next `ModInit()` returns (R30, R32). -/
def modInitStatus (s : State) : Nat :=
  oracleNext Config.freeModInit s.modInit

/-- The state after `ModInit()`: event `MI(s)`, the latches to `U` (R26, R30, R130). -/
def modInitCall (s : State) : State :=
  { clearLatches (emit (.modInit (modInitStatus s)) s) with modInit := oracleAdvance s.modInit }

/-- `ModExit()`: event `ME`, the latches to `U` (R26, R30). -/
def modExitCall (s : State) : State :=
  clearLatches (emit .modExit s)

/-! ### Running a body -/

/-- How a body, or a part of one, ends: done, or by a raise. -/
inductive Run where
  | done (s : State)
  | raised (e : Raise) (s : State)
  deriving DecidableEq, Repr

/-- `Acquire()` (R130). -/
def acquire (s : State) : Run :=
  if s.busHeld then .done s
  else if modInitStatus s = modInitOk then .done { modInitCall s with busHeld := true }
  else .raised (.hardwareInit (modInitStatus s)) (modInitCall s)

/-- `Transfer(l, bs)`: DC, select, send, release; a failure raises directly after the SpiWrite, CS not released
(R131, R133). -/
def transfer (l : Level) (bs : List Byte) (s : State) : Run :=
  let t := pinWrite .cs csSelected (pinWrite .dc l s)
  if spiSucceeds t then .done (pinWrite .cs csReleased (spiWrite bs t))
  else .raised (.busTransaction l bs) (spiWrite bs t)

/-- A transfer with `S.st` held at a transmitting state and put back after it (R132, R134, R136, R137). -/
def send (during : St) (l : Level) (bs : List Byte) (s : State) : Run :=
  match transfer l bs (setSt during s) with
  | .done t => .done (setSt s.st t)
  | .raised e t => .raised e t

/-- `SendCmd(op)` (R132). -/
def sendCmdHelper (op : Byte) (s : State) : Run :=
  send .transmittingCommand dcCommand [op] s

/-- `SendData(b)` (R134). -/
def sendDataHelper (b : Byte) (s : State) : Run :=
  send .transmittingData dcData [b] s

/-- `SendBulk(bs)`: one transfer of the whole sequence (R136). -/
def sendBulkHelper (bs : List Byte) (s : State) : Run :=
  send .transmittingData dcData bs s

/-- `ResetPulse()` (R138). -/
def resetPulse (s : State) : State :=
  setSt .awaitingBusyClear
    (delayMs rstT3Ms (pinWrite .rst rstAssert
      (delayMs rstT2Ms (pinWrite .rst rstDeassert
        (delayMs rstT1Ms (pinWrite .rst rstAssert (setSt .resetting s)))))))

/-- The loop of `WaitIdle`: one read of BUSY, of which `n` went before, and at most `more` further ones (R140). -/
def pollLoop (poll : Nat) : (more n : Nat) → State → Run
  | more, n, s =>
    if busyLevel s = busyIdle then .done (setSt .ready (delayMs poll (pinReadBusy s)))
    else
      match more with
      | 0 => .raised (.deviceNotResponding (n + 1)) (pinReadBusy s)
      | k + 1 => pollLoop poll k (n + 1) (delayMs poll (pinReadBusy s))

/-- `WaitIdle(poll)`: at most BUSY_MAX_POLLS reads (R140). -/
def waitIdleHelper (poll : Nat) (s : State) : Run :=
  pollLoop poll s.cfg.pollsAfterFirst 0 (setSt .awaitingBusyClear s)

/-! ### Driver steps as data -/

/-- The steps the bodies of 41_bus_primitives.md to 45_refresh_policy.md are made of. "A model should keep the
sequences as data" (44_init_sequences.md). -/
inductive Action where
  /-- Acquire() -/
  | acquire
  /-- ResetPulse() -/
  | resetPulse
  /-- WaitIdle(poll) -/
  | waitIdle (poll : Nat)
  /-- SendCmd(op) -/
  | sendCmd (op : Byte)
  /-- SendData(b) -/
  | sendData (b : Byte)
  /-- SendBulk(bs) -/
  | sendBulk (bs : List Byte)
  /-- S.st <- TriggeringRefresh (R186) -/
  | beginTrigger
  /-- S.lutLoaded <- 1 (R184) -/
  | markLutLoaded
  /-- S.mode <- m (R200) -/
  | setMode (m : Mode)
  /-- DelayMs(n) -/
  | delay (n : Nat)
  /-- ModExit() and the four writes that end a session (R188) -/
  | endSession
  /-- UpdateCount(actual); S.orchMode <- actual (R220, R224) -/
  | countRefresh (actual : Mode)
  /-- Store(fp) (R230) -/
  | store (fp : Digest)
  deriving DecidableEq, Repr

/-- Runs one step. -/
def runAction (a : Action) (s : State) : Run :=
  match a with
  | .acquire => acquire s
  | .resetPulse => .done (resetPulse s)
  | .waitIdle poll => waitIdleHelper poll s
  | .sendCmd op => sendCmdHelper op s
  | .sendData b => sendDataHelper b s
  | .sendBulk bs => sendBulkHelper bs s
  | .beginTrigger => .done (setSt .triggeringRefresh s)
  | .markLutLoaded => .done (Sys2Proof.Machine.markLutLoaded s)
  | .setMode m => .done (Sys2Proof.Machine.setMode m s)
  | .delay n => .done (delayMs n s)
  | .endSession => .done (Sys2Proof.Machine.endSession (modExitCall s))
  | .countRefresh actual => .done (setOrchMode actual (updateCount actual s))
  | .store fp => .done (storeFingerprint fp s)

/-- Runs steps in the order written; a raise ends the body (R9, R259). -/
def runAll : List Action → State → Run
  | [], s => .done s
  | a :: rest, s =>
    match runAction a s with
    | .done t => runAll rest t
    | .raised e t => .raised e t

/-! ### The wrapper (R139) and the abort (R257) -/

/-- Writes the answer to the host (R29, R73). -/
def answerWith (a : Answer) (s : State) : State :=
  { s with answer := some a }

/-- The answer Refused: no bus event, no register (R139, R255). -/
def refuse (s : State) : State :=
  answerWith .refused s

/-- The abort: `S.st` goes back to its entry value, the class and its information go to the host, nothing else is
undone (R257, R262). -/
def abort (st0 : St) (e : Raise) (s : State) : State :=
  answerWith (.error e) (setSt st0 s)

/-- `HostOp(body)`: entry state, operand preconditions, body; on a raise the abort, otherwise OK and the value
(R139, R258). -/
def hostOp (entry : List St) (accepted : Bool) (body : State → Run) (v : Value) (s : State) : State :=
  if s.st ∈ entry then
    if accepted then
      match body s with
      | .done t => answerWith (.ok v) t
      | .raised e t => abort s.st e t
    else refuse s
  else refuse s

/-- The four visible states: the entry states of RESET, INIT, REFRESH and UPDATE (R24, R16). -/
def entryVisible : List St := [.uninitialized, .awaitingBusyClear, .ready, .sleeping]

/-- The entry states of WAIT_IDLE (R24). -/
def entryWait : List St := [.awaitingBusyClear, .ready]

/-- The entry state of every sending operation and of SLEEP (R24). -/
def entryReady : List St := [.ready]

/-- A restart: R33 is re-established whole; the configuration, ENV and what the host asks next are outside the core and
stay (R280, R285; log entry 12). -/
def restartCore (s : State) : State :=
  { State.reset with cfg := s.cfg, inbox := s.inbox, busy := s.busy, spi := s.spi, modInit := s.modInit }

/-! ### Sequences of wire commands -/

/-- `WireCmd(op, payload)`: SendCmd, then SendPayload, one transfer per byte (R135, R150). -/
def wireActions (w : WireCommand) : List Action :=
  .sendCmd w.op :: w.payload.map .sendData

/-- `WriteFrame(reg, bytes)`: SendCmd, then SendBulk (R223). -/
def frameActions (w : WireCommand) : List Action :=
  [.sendCmd w.op, .sendBulk w.payload]

/-! ### What is read off a trace (R26, R31) -/

/-- The level last written to pin `p`, or `U` when none has been written since the bus was acquired or released,
reading on from level `l` (R26). -/
def latchFrom (p : OutPin) : Option Level → List Event → Option Level
  | l, [] => l
  | l, .write q v :: rest => latchFrom p (if q = p then some v else l) rest
  | _, .modInit _ :: rest => latchFrom p none rest
  | _, .modExit :: rest => latchFrom p none rest
  | l, _ :: rest => latchFrom p l rest

/-- The items of one successful transfer under a DC level: commands at 0, data at 1; none while DC is `U`, which no
transfer meets (R31, R26). -/
def itemsOf (dc : Option Level) (bs : List Byte) : List WireItem :=
  match dc with
  | some .l0 => bs.map .c
  | some .l1 => bs.map .d
  | none => []

/-- `wire(T)`, reading on from DC level `l` (R31). -/
def wireFrom : Option Level → List Event → List WireItem
  | _, [] => []
  | l, .xfer bs :: rest => itemsOf l bs ++ wireFrom l rest
  | l, .write p v :: rest => wireFrom (if p = .dc then some v else l) rest
  | _, .modInit _ :: rest => wireFrom none rest
  | _, .modExit :: rest => wireFrom none rest
  | l, _ :: rest => wireFrom l rest

/-- The wire projection `wire(T)` (R31). -/
def wire (t : List Event) : List WireItem :=
  wireFrom none t

/-- The code of a result class (R250). -/
def classCode (a : Answer) : Nat :=
  match a with
  | .ok _ => 0
  | .error (.hardwareInit _) => 1
  | .error (.deviceNotResponding _) => 2
  | .error (.busTransaction _ _) => 3
  | .error (.unsupportedImageDimensions _ _) => 4
  | .refused => 5

/-- The number of a state of the sequencer (R16). -/
def stCode (st : St) : BitVec 3 :=
  match st with
  | .uninitialized => 0
  | .resetting => 1
  | .awaitingBusyClear => 2
  | .ready => 3
  | .transmittingCommand => 4
  | .transmittingData => 5
  | .triggeringRefresh => 6
  | .sleeping => 7

end Sys2Proof.Machine
end

