-- ==== Sys2Proof/Machine/Codec.lean ====
section
/-! DEFINITION. The framebuffer bit-packer: ENC_MONO, ENC_GRAY, REPACK (40_codec.md). They read and write no register and
perform no bus event; what they answer is all they do (20_memory.md R58, 40_codec.md R112). -/

namespace Sys2Proof.Machine

abbrev Outcome := Host.Outcome State Fault Refusal

/-- One byte of a monochrome buffer: eight pixels shifted in, the first ends in bit 7 (R105, R46). -/
def packBits (bit : Nat → Bool) : Byte :=
  (List.range 8).foldl (fun acc j => (acc <<< 1) ||| (BitVec.ofBool (bit j)).setWidth 8) 0

/-- One byte of a grayscale buffer: four codes shifted in, the first ends in bits 7 and 6 (R107, R46). -/
def packCodes (codeAt : Nat → BitVec 2) : Byte :=
  (List.range 4).foldl (fun acc j => (acc <<< 2) ||| (codeAt j).setWidth 8) 0

/-- Byte `k` of ENC_MONO (R105). -/
def monoByte (c : Config) (o : Orientation) (img : Raster) (k : Nat) : Byte :=
  packBits fun j => white img (panelPixel c o img (8 * (k % (width c / 8)) + j) (k / (width c / 8)))

/-- The buffer of ENC_MONO (R105). -/
def encodeMono (c : Config) (o : Orientation) (img : Raster) : List Byte :=
  (List.range (monoLen c)).map (monoByte c o img)

/-- The panel position of raster pixel `(x, y)`: `newX = y`, `newY = H - 1 - x` when transposed (R102). -/
def remap (c : Config) (o : Orientation) (x y : Nat) : Nat × Nat :=
  match o with
  | .identity => (x, y)
  | .transposed => (y, height c - 1 - x)

/-- Clears bit `7 - (newX % 8)` of byte `(newX + newY * W) / 8` (R105). -/
def clearPixel (c : Config) (pos : Nat × Nat) (bs : List Byte) : List Byte :=
  bs.modify ((pos.1 + pos.2 * width c) / 8) fun b => b &&& ~~~((0x80 : Byte) >>> (pos.1 % 8))

/-- The first `n` pixels of a raster, row by row, put into a buffer of MONO_BG bytes: the bit of each black one cleared. -/
def clearBlackPixels (c : Config) (o : Orientation) (img : Raster) : Nat → List Byte
  | 0 => List.replicate (monoLen c) monoBg
  | n + 1 =>
    if white img (rasterPixel img (n % img.iw) (n / img.iw)) then clearBlackPixels c o img n
    else clearPixel c (remap c o (n % img.iw) (n / img.iw)) (clearBlackPixels c o img n)

/-- The source's own formulation of ENC_MONO, over every pixel of the raster (R105): the second form
beside `encodeMono`, which the meaning uses. -/
def encodeMonoByClearing (c : Config) (o : Orientation) (img : Raster) : List Byte :=
  clearBlackPixels c o img (img.iw * img.ih)

/-- Byte `k` of ENC_GRAY (R107). -/
def grayByte (c : Config) (o : Orientation) (img : Raster) (k : Nat) : Byte :=
  packCodes fun j => grayCode (lum img (panelPixel c o img (4 * (k % (width c / 4)) + j) (k / (width c / 4))))

/-- The buffer of ENC_GRAY (R107). -/
def encodeGray (c : Config) (o : Orientation) (img : Raster) : List Byte :=
  (List.range (grayLen c)).map (grayByte c o img)

/-- Byte `i` of a bitplane under a plane rule: the samples of `g[2i]`, then those of `g[2i + 1]` (R110). -/
def planeByte (rule : BitVec 2 → Bool) (g : List Byte) (i : Nat) : Byte :=
  packBits fun j => rule (sample (g.getD (2 * i + j / 4) 0) (j % 4))

/-- A bitplane (R110). -/
def repackPlane (c : Config) (rule : BitVec 2 → Bool) (g : List Byte) : List Byte :=
  (List.range (monoLen c)).map (planeByte rule g)

/-- The answer to an encoder: its buffer, or the error for an invalid shape (R101, R254). -/
def encodeAnswer (c : Config) (img : Raster) (enc : Config → Orientation → Raster → List Byte) : Answer :=
  match orientation c img with
  | some o => .ok (.bytes (enc c o img))
  | none => .error (.unsupportedImageDimensions img.iw img.ih)

/-- ENC_MONO(img) (R105). -/
def execEncMono (img : Raster) (s : State) : Outcome :=
  .next (answerWith (encodeAnswer s.cfg img encodeMono) s)

/-- ENC_GRAY(img) (R107). -/
def execEncGray (img : Raster) (s : State) : Outcome :=
  .next (answerWith (encodeAnswer s.cfg img encodeGray) s)

/-- REPACK(g): Refused for a wrong length (R110, R52). -/
def execRepack (g : List Byte) (s : State) : Outcome :=
  .next (if g.length = grayLen s.cfg then
      answerWith (.ok (.planes (repackPlane s.cfg plane1Rule g) (repackPlane s.cfg plane2Rule g))) s
    else refuse s)

end Sys2Proof.Machine
end

