-- ==== Sys2Proof/Machine/Bus.lean ====
section
/-! DEFINITION. The bus primitives as host operations: RESET, WAIT_IDLE, SEND_CMD, SEND_DATA, SEND_BULK
(41_bus_primitives.md). Each is its helper inside the wrapper (R139). -/

namespace Sys2Proof.Machine

/-- RESET(): the bus is taken if it is not held, then the pulse (R138). -/
def execReset (s : State) : Outcome :=
  .next (hostOp entryVisible true (runAll [.acquire, .resetPulse]) .none s)

/-- WAIT_IDLE(poll) (R141). -/
def execWaitIdle (poll : Option Nat) (s : State) : Outcome :=
  .next (hostOp entryWait true (runAll [.waitIdle (pollOperand poll)]) .none s)

/-- SEND_CMD(op): any byte is sent (R132, R87). -/
def execSendCmd (op : Byte) (s : State) : Outcome :=
  .next (hostOp entryReady true (runAll [.sendCmd op]) .none s)

/-- SEND_DATA(b) (R134, R88). -/
def execSendData (b : Byte) (s : State) : Outcome :=
  .next (hostOp entryReady true (runAll [.sendData b]) .none s)

/-- SEND_BULK(bs): one transfer, of any length (R136). -/
def execSendBulk (bs : List Byte) (s : State) : Outcome :=
  .next (hostOp entryReady true (runAll [.sendBulk bs]) .none s)

end Sys2Proof.Machine
end

