-- ==== Sys2Proof/Machine/Registers.lean ====
section
/-! DEFINITION. The register operations: SET_WINDOW, SET_CURSOR, LOAD_LUT, TRIGGER.m, SLEEP (43_register_ops.md). -/

namespace Sys2Proof.Machine

/-- `SetWindow`: X before Y (R180). -/
def setWindowActions (w : Window) : List Action :=
  wireActions (cmdXWindow w.x0 w.x1) ++ wireActions (cmdYWindow w.y0 w.y1)

/-- `SetCursor`: X before Y (R182). -/
def setCursorActions (x : BitVec 10) (y : BitVec 16) : List Action :=
  wireActions (cmdXCounter x) ++ wireActions (cmdYCounter y)

/-- `LoadLut`: four commands, the flag after the last transfer and only then (R184). -/
def loadLutActions (c : Config) : List Action :=
  wireActions (cmdLut c) ++ wireActions (cmdGateLineEnd c) ++ wireActions (cmdGateVoltage c) ++
    wireActions (cmdVcom c) ++ [.markLutLoaded]

/-- `Trigger(m)`: the activation byte, the master activation, the wait (R186). -/
def triggerActions (m : Mode) : List Action :=
  [.beginTrigger] ++ wireActions (cmdUpdateControl (activation m)) ++ wireActions cmdMasterActivation ++
    [.waitIdle pollMs]

/-- `Sleep()` (R188). -/
def sleepActions (c : Config) : List Action :=
  wireActions cmdDeepSleep ++ [.delay c.sleepDelayMs, .endSession]

/-- SET_WINDOW(x0, y0, x1, y1) (R180). -/
def execSetWindow (x0 : BitVec 10) (y0 : BitVec 16) (x1 : BitVec 10) (y1 : BitVec 16) (s : State) : Outcome :=
  .next (hostOp entryReady true (runAll (setWindowActions ⟨x0, y0, x1, y1⟩)) .none s)

/-- SET_CURSOR(x, y) (R182). -/
def execSetCursor (x : BitVec 10) (y : BitVec 16) (s : State) : Outcome :=
  .next (hostOp entryReady true (runAll (setCursorActions x y)) .none s)

/-- LOAD_LUT(): Refused when the table has been loaded in this session (R184, R185). -/
def execLoadLut (s : State) : Outcome :=
  .next (hostOp entryReady (!s.lutLoaded) (runAll (loadLutActions s.cfg)) .none s)

/-- TRIGGER.Full() (R186). -/
def execTriggerFull (s : State) : Outcome :=
  .next (hostOp entryReady true (runAll (triggerActions .full)) .none s)

/-- TRIGGER.Fast() (R186). -/
def execTriggerFast (s : State) : Outcome :=
  .next (hostOp entryReady true (runAll (triggerActions .fast)) .none s)

/-- TRIGGER.Partial() (R186). -/
def execTriggerPartial (s : State) : Outcome :=
  .next (hostOp entryReady true (runAll (triggerActions .part)) .none s)

/-- TRIGGER.Grayscale() (R186). -/
def execTriggerGrayscale (s : State) : Outcome :=
  .next (hostOp entryReady true (runAll (triggerActions .grayscale)) .none s)

/-- SLEEP() (R188). -/
def execSleep (s : State) : Outcome :=
  .next (hostOp entryReady true (runAll (sleepActions s.cfg)) .none s)

end Sys2Proof.Machine
end

