-- ==== Sys2Proof/Machine/Init.lean ====
section
/-! DEFINITION. The initialisation sequences INIT.m as one list of steps over the per-mode record
(44_init_sequences.md R200 to R206). -/

namespace Sys2Proof.Machine

/-- `CommonRegs(border)` (R202). -/
def commonRegsActions (c : Config) (border : Border) : List Action :=
  wireActions cmdTempSensor ++ wireActions cmdBooster ++ wireActions (cmdDriverOutput c) ++
    wireActions (cmdBorder border) ++ wireActions cmdDataEntry ++ setWindowActions (winFull c) ++
    setCursorActions curFullX curFullY

/-- `FastFlag()` (R203). -/
def fastFlagActions : List Action :=
  wireActions (cmdUpdateControl .fastFlag) ++ wireActions cmdMasterActivation ++ [.waitIdle pollMs]

/-- The body of `INIT.m` (R200 to R205): pulse and wait; 0x12 and a wait unless Partial; the register block and a wait;
the fast flag step where the mode has one; the table and a wait where the mode needs it and it has not been loaded; the
mode as the last act. `loaded` is S.lutLoaded at entry: no earlier step of the body writes it (log entry 17). -/
def initActions (c : Config) (loaded : Bool) (m : Mode) : List Action :=
  [.acquire, .resetPulse, .waitIdle pollMs] ++
    (if (modeRecord m).sendsReset then wireActions cmdResetDeepSleep ++ [.waitIdle pollMs] else []) ++
    commonRegsActions c (modeRecord m).border ++ [.waitIdle pollMs] ++
    (if (modeRecord m).fastFlag then fastFlagActions else []) ++
    (if (modeRecord m).lutRequired && !loaded then loadLutActions c ++ [.waitIdle pollMs] else []) ++
    [.setMode m]

/-- INIT.Full() (R201). -/
def execInitFull (s : State) : Outcome :=
  .next (hostOp entryVisible true (runAll (initActions s.cfg s.lutLoaded .full)) .none s)

/-- INIT.Fast() (R203). -/
def execInitFast (s : State) : Outcome :=
  .next (hostOp entryVisible true (runAll (initActions s.cfg s.lutLoaded .fast)) .none s)

/-- INIT.Partial() (R204). -/
def execInitPartial (s : State) : Outcome :=
  .next (hostOp entryVisible true (runAll (initActions s.cfg s.lutLoaded .part)) .none s)

/-- INIT.Grayscale() (R205). -/
def execInitGrayscale (s : State) : Outcome :=
  .next (hostOp entryVisible true (runAll (initActions s.cfg s.lutLoaded .grayscale)) .none s)

end Sys2Proof.Machine
end

