-- ==== Sys2Proof/Machine/Policy.lean ====
section
/-! DEFINITION. The refresh policy and the change detector: REFRESH.m, FP_COMPUTE, SHOULD_UPDATE, UPDATE.m
(45_refresh_policy.md). -/

namespace Sys2Proof.Machine

/-- Step 3 of REFRESH, the frame transfers: both bitplanes for Grayscale, otherwise the buffer to 0x24 (R223, R111). -/
def frameTransfers (c : Config) (actual : Mode) (buf : List Byte) : List Action :=
  match actual with
  | .grayscale =>
    frameActions (cmdRamPlane1 (repackPlane c plane1Rule buf)) ++
      frameActions (cmdRamPlane2 (repackPlane c plane2Rule buf))
  | _ => frameActions (cmdRamPlane1 buf)

/-- The body of REFRESH once the mode has been chosen (R220). -/
def refreshActions (c : Config) (loaded : Bool) (actual : Mode) (buf : List Byte) : List Action :=
  initActions c loaded actual ++ frameTransfers c actual buf ++ triggerActions actual ++ [.countRefresh actual]

/-- `Refresh(m, buf, pp)`: the mode is chosen from the count as it stands at entry (R220, R221). -/
def refreshBody (m : Mode) (buf : List Byte) (preferPartial : Bool) (s : State) : Run :=
  runAll (refreshActions s.cfg s.lutLoaded (selectMode s m preferPartial) buf) s

/-- REFRESH.m with its preconditions (R220, R222). -/
def refreshOp (m : Mode) (buf : List Byte) (preferPartial : Bool) (s : State) : State :=
  hostOp entryVisible (refreshAccepted s.cfg m buf preferPartial) (refreshBody m buf preferPartial) .none s

/-- The encoder of a content type (R229). -/
def encodeFor (m : Mode) (c : Config) (o : Orientation) (img : Raster) : List Byte :=
  match m with
  | .grayscale => encodeGray c o img
  | _ => encodeMono c o img

/-- `Update(m, img, pp, force)`: shape, fingerprint, decision, encoder and refresh, store (R229). -/
def updateBody (m : Mode) (img : Raster) (preferPartial force : Bool) (s : State) : Run :=
  match orientation s.cfg img with
  | none => .raised (.unsupportedImageDimensions img.iw img.ih) s
  | some o =>
    if shouldUpdate s (Config.fingerprint img) force then
      runAll (refreshActions s.cfg s.lutLoaded (selectMode s m preferPartial) (encodeFor m s.cfg o img) ++
        [.store (Config.fingerprint img)]) s
    else .done s

/-- UPDATE.m with its precondition; the value says whether it transmitted (R229). -/
def updateOp (m : Mode) (img : Raster) (preferPartial force : Bool) (s : State) : State :=
  hostOp entryVisible (updateAccepted m preferPartial) (updateBody m img preferPartial force)
    (.transmitted (shouldUpdate s (Config.fingerprint img) force)) s

/-- REFRESH.Full(buf, preferPartial) (R220). -/
def execRefreshFull (buf : List Byte) (preferPartial : Bool) (s : State) : Outcome :=
  .next (refreshOp .full buf preferPartial s)

/-- REFRESH.Fast(buf, preferPartial) (R220). -/
def execRefreshFast (buf : List Byte) (preferPartial : Bool) (s : State) : Outcome :=
  .next (refreshOp .fast buf preferPartial s)

/-- REFRESH.Grayscale(buf, preferPartial) (R220). -/
def execRefreshGrayscale (buf : List Byte) (preferPartial : Bool) (s : State) : Outcome :=
  .next (refreshOp .grayscale buf preferPartial s)

/-- FP_COMPUTE(img): the shape is not checked here (R226). -/
def execFpCompute (img : Raster) (s : State) : Outcome :=
  .next (answerWith (.ok (.digest (Config.fingerprint img))) s)

/-- SHOULD_UPDATE(fp, force): asking does not store (R227). -/
def execShouldUpdate (fp : Digest) (force : Bool) (s : State) : Outcome :=
  .next (answerWith (.ok (.bit (shouldUpdate s fp force))) s)

/-- UPDATE.Full(img, preferPartial, force) (R229). -/
def execUpdateFull (img : Raster) (preferPartial force : Bool) (s : State) : Outcome :=
  .next (updateOp .full img preferPartial force s)

/-- UPDATE.Fast(img, preferPartial, force) (R229). -/
def execUpdateFast (img : Raster) (preferPartial force : Bool) (s : State) : Outcome :=
  .next (updateOp .fast img preferPartial force s)

/-- UPDATE.Grayscale(img, preferPartial, force) (R229). -/
def execUpdateGrayscale (img : Raster) (preferPartial force : Bool) (s : State) : Outcome :=
  .next (updateOp .grayscale img preferPartial force s)

end Sys2Proof.Machine
end

