-- ==== Sys2Proof/Machine/Wire.lean ====
section
/-! DEFINITION. The wire commands, each sent on its own by the sequencer (42_wire_commands.md). A wire command is
`SendCmd(opcode)` followed by `SendPayload(payload)`, a frame-RAM command `SendCmd` followed by `SendBulk`; "a model of the
core must not give a command any effect on the core's own state". It is sent in Ready only (R150, R24) and an error is taken
as by every driver operation (R139, R257). DESIGN CHOICE: a command asked for on its own runs in the wrapper (log entry 8). -/

namespace Sys2Proof.Machine

/-- `WireCmd(op, payload)` on its own (R150). -/
def wireOp (w : WireCommand) (s : State) : State :=
  hostOp entryReady true (runAll (wireActions w)) .none s

/-- `WriteFrame(reg, bytes)` on its own: a payload that is not MONO_LEN bytes is not this command (R75, R223; log
entry 9). -/
def frameOp (w : WireCommand) (s : State) : State :=
  hostOp entryReady (w.payload.length == monoLen s.cfg) (runAll (frameActions w)) .none s

/-- 0x01 Driver output control (R151). -/
def execWireDriverOutputControl (s : State) : Outcome :=
  .next (wireOp (cmdDriverOutput s.cfg) s)

/-- 0x11 Data entry mode (R152). -/
def execWireDataEntryMode (s : State) : Outcome :=
  .next (wireOp cmdDataEntry s)

/-- 0x12 Reset deep-sleep: it changes no register of the core (R153, R283). -/
def execWireResetDeepSleep (s : State) : Outcome :=
  .next (wireOp cmdResetDeepSleep s)

/-- 0x44 Set RAM X window (R154). -/
def execWireSetRamXWindow (x0 x1 : BitVec 10) (s : State) : Outcome :=
  .next (wireOp (cmdXWindow x0 x1) s)

/-- 0x45 Set RAM Y window (R155). -/
def execWireSetRamYWindow (y0 y1 : BitVec 16) (s : State) : Outcome :=
  .next (wireOp (cmdYWindow y0 y1) s)

/-- 0x3C Border waveform (R156). -/
def execWireBorderWaveform (b : Border) (s : State) : Outcome :=
  .next (wireOp (cmdBorder b) s)

/-- 0x0C Booster soft-start (R157). -/
def execWireBoosterSoftStart (s : State) : Outcome :=
  .next (wireOp cmdBooster s)

/-- 0x18 Temp sensor select (R158). -/
def execWireTempSensorSelect (s : State) : Outcome :=
  .next (wireOp cmdTempSensor s)

/-- 0x4E Set RAM X addr counter (R159). -/
def execWireSetRamXAddrCounter (x : BitVec 10) (s : State) : Outcome :=
  .next (wireOp (cmdXCounter x) s)

/-- 0x4F Set RAM Y addr counter (R160). -/
def execWireSetRamYAddrCounter (y : BitVec 16) (s : State) : Outcome :=
  .next (wireOp (cmdYCounter y) s)

/-- 0x22 Display update control 2 (R161). -/
def execWireDisplayUpdateControl2 (ctl : UpdateControl) (s : State) : Outcome :=
  .next (wireOp (cmdUpdateControl ctl) s)

/-- 0x20 Master activation; the busy wait that follows it in the core's sequences is theirs (R162). -/
def execWireMasterActivation (s : State) : Outcome :=
  .next (wireOp cmdMasterActivation s)

/-- 0x32 Write LUT register (R163). -/
def execWireWriteLutRegister (s : State) : Outcome :=
  .next (wireOp (cmdLut s.cfg) s)

/-- 0x03 Gate line end (R164). -/
def execWireGateLineEnd (s : State) : Outcome :=
  .next (wireOp (cmdGateLineEnd s.cfg) s)

/-- 0x04 Gate driving voltage (R165). -/
def execWireGateDrivingVoltage (s : State) : Outcome :=
  .next (wireOp (cmdGateVoltage s.cfg) s)

/-- 0x2C VCOM register (R166). -/
def execWireVcomRegister (s : State) : Outcome :=
  .next (wireOp (cmdVcom s.cfg) s)

/-- 0x24 Write B/W RAM (plane 1), a packed buffer of MONO_LEN bytes (R167). -/
def execWireWriteBwRamPlane1 (bs : List Byte) (s : State) : Outcome :=
  .next (frameOp (cmdRamPlane1 bs) s)

/-- 0x26 Write B/W RAM (plane 2), a packed buffer of MONO_LEN bytes (R168). -/
def execWireWriteBwRamPlane2 (bs : List Byte) (s : State) : Outcome :=
  .next (frameOp (cmdRamPlane2 bs) s)

/-- 0x10 Deep sleep: the command alone, which changes no register of the core (R169). -/
def execWireDeepSleep (s : State) : Outcome :=
  .next (wireOp cmdDeepSleep s)

end Sys2Proof.Machine
end

