-- ==== Sys2Proof/Machine/Dispatch.lean ====
section
/-! DEFINITION. The dispatch: one arm per constructor of `Instr`, each one direct call of its meaning. -/

namespace Sys2Proof.Machine

/-- What an instruction does. -/
def exec (i : Instr) (s : State) : Host.Outcome State Fault Refusal :=
  match i with
  | .encMono img => Sys2Proof.Machine.execEncMono img s
  | .encGray img => Sys2Proof.Machine.execEncGray img s
  | .repack g => Sys2Proof.Machine.execRepack g s
  | .reset => Sys2Proof.Machine.execReset s
  | .waitIdle poll => Sys2Proof.Machine.execWaitIdle poll s
  | .sendCmd op => Sys2Proof.Machine.execSendCmd op s
  | .sendData b => Sys2Proof.Machine.execSendData b s
  | .sendBulk bs => Sys2Proof.Machine.execSendBulk bs s
  | .setWindow x0 y0 x1 y1 => Sys2Proof.Machine.execSetWindow x0 y0 x1 y1 s
  | .setCursor x y => Sys2Proof.Machine.execSetCursor x y s
  | .loadLut => Sys2Proof.Machine.execLoadLut s
  | .initFull => Sys2Proof.Machine.execInitFull s
  | .initFast => Sys2Proof.Machine.execInitFast s
  | .initPartial => Sys2Proof.Machine.execInitPartial s
  | .initGrayscale => Sys2Proof.Machine.execInitGrayscale s
  | .triggerFull => Sys2Proof.Machine.execTriggerFull s
  | .triggerFast => Sys2Proof.Machine.execTriggerFast s
  | .triggerPartial => Sys2Proof.Machine.execTriggerPartial s
  | .triggerGrayscale => Sys2Proof.Machine.execTriggerGrayscale s
  | .sleep => Sys2Proof.Machine.execSleep s
  | .refreshFull buf preferPartial => Sys2Proof.Machine.execRefreshFull buf preferPartial s
  | .refreshFast buf preferPartial => Sys2Proof.Machine.execRefreshFast buf preferPartial s
  | .refreshGrayscale buf preferPartial => Sys2Proof.Machine.execRefreshGrayscale buf preferPartial s
  | .fpCompute img => Sys2Proof.Machine.execFpCompute img s
  | .shouldUpdate fp force => Sys2Proof.Machine.execShouldUpdate fp force s
  | .updateFull img preferPartial force => Sys2Proof.Machine.execUpdateFull img preferPartial force s
  | .updateFast img preferPartial force => Sys2Proof.Machine.execUpdateFast img preferPartial force s
  | .updateGrayscale img preferPartial force => Sys2Proof.Machine.execUpdateGrayscale img preferPartial force s
  | .wireDriverOutputControl => Sys2Proof.Machine.execWireDriverOutputControl s
  | .wireDataEntryMode => Sys2Proof.Machine.execWireDataEntryMode s
  | .wireResetDeepSleep => Sys2Proof.Machine.execWireResetDeepSleep s
  | .wireSetRamXWindow x0 x1 => Sys2Proof.Machine.execWireSetRamXWindow x0 x1 s
  | .wireSetRamYWindow y0 y1 => Sys2Proof.Machine.execWireSetRamYWindow y0 y1 s
  | .wireBorderWaveform b => Sys2Proof.Machine.execWireBorderWaveform b s
  | .wireBoosterSoftStart => Sys2Proof.Machine.execWireBoosterSoftStart s
  | .wireTempSensorSelect => Sys2Proof.Machine.execWireTempSensorSelect s
  | .wireSetRamXAddrCounter x => Sys2Proof.Machine.execWireSetRamXAddrCounter x s
  | .wireSetRamYAddrCounter y => Sys2Proof.Machine.execWireSetRamYAddrCounter y s
  | .wireDisplayUpdateControl2 ctl => Sys2Proof.Machine.execWireDisplayUpdateControl2 ctl s
  | .wireMasterActivation => Sys2Proof.Machine.execWireMasterActivation s
  | .wireWriteLutRegister => Sys2Proof.Machine.execWireWriteLutRegister s
  | .wireGateLineEnd => Sys2Proof.Machine.execWireGateLineEnd s
  | .wireGateDrivingVoltage => Sys2Proof.Machine.execWireGateDrivingVoltage s
  | .wireVcomRegister => Sys2Proof.Machine.execWireVcomRegister s
  | .wireWriteBwRamPlane1 bs => Sys2Proof.Machine.execWireWriteBwRamPlane1 bs s
  | .wireWriteBwRamPlane2 bs => Sys2Proof.Machine.execWireWriteBwRamPlane2 bs s
  | .wireDeepSleep => Sys2Proof.Machine.execWireDeepSleep s

end Sys2Proof.Machine
end

