-- ==== Sys2Proof/Machine/Fetch.lean ====
section
/-! DEFINITION. Taking the next request. The core fetches no instructions (10_state.md R22): what it runs next is what the
host presents (R29), and while nothing is presented it does nothing (70_reset_and_hazards.md R280). -/

namespace Sys2Proof.Machine

/-- What the core finds when it looks for its next operation. -/
inductive Fetched where
  /-- nothing is presented -/
  | idle
  /-- a restart, with the state once the request is taken -/
  | restart (t : State)
  /-- a byte that names no operation (R85) -/
  | illFormed (r : Reject) (t : State)
  /-- an instruction, with the state once the request is taken -/
  | run (i : Instr) (t : State)
  deriving DecidableEq, Repr

/-- The state once the first request has been taken. -/
def takeRequest (s : State) : State :=
  { s with inbox := s.inbox.tail }

/-- Looks at the first request and decodes it. -/
def fetch (s : State) : Fetched :=
  match s.inbox with
  | [] => .idle
  | r :: _ =>
    match decodeRequest r with
    | none => .restart (takeRequest s)
    | some (.reject why) => .illFormed why (takeRequest s)
    | some (.instr i) => .run i (takeRequest s)

/-- Runs a fetched instruction; an operand outside its type cannot be presented (R71; log entry 7). -/
def runInstr (i : Instr) (t : State) : Outcome :=
  if i.wellFormed then exec i t else .fault .operandOutsideType

/-- Puts a request where `fetch` looks first. -/
def presentFirst (r : Request) (s : State) : State :=
  { s with inbox := r :: s.inbox }

end Sys2Proof.Machine
end

