-- ==== Sys2Proof/Machine/Step.lean ====
section
/-! DEFINITION. One step: one operation, from its presentation to its answer (10_state.md R22, R29). -/

namespace Sys2Proof.Machine

/-- One step of the core. With nothing presented it changes nothing (R280); a byte that names no operation is answered
Refused (R85); a restart re-establishes R33 (R280); any other request runs to its end (R22). -/
def step (s : State) : Host.Outcome State Fault Refusal :=
  match fetch s with
  | .idle => .next s
  | .restart t => .next (restartCore t)
  | .illFormed _ t => .next (refuse t)
  | .run i t => runInstr i t

/-- The state with the word `w` of spec/opcode_table.json presented next, nothing on the operand ports. -/
def State.withFetchWord (s : State) (_nbits w : Nat) : State :=
  presentFirst (requestOfWord w) s

end Sys2Proof.Machine
end

