-- ==== Sys2Proof/Safety.lean ====
section
/-! DEFINITION. The terms the claims are stated in: the events and wire commands the spec lists (written here from its
listings, not from the model's sequences), premises about ENV, the states operations end in, and the invariant. -/

namespace Sys2Proof.Machine

/-! ### Events as the spec lists them -/

/-- The events of a successful transfer: `W(DC, l) W(CS, 0) X(bs) W(CS, 1)` (R131). -/
def evTransfer (l : Level) (bs : List Byte) : List Event :=
  [.write .dc l, .write .cs .l0, .xfer bs, .write .cs .l1]

/-- The events of a failed transfer: `W(DC, l) W(CS, 0) XF(bs)` (R131, R133). -/
def evFailed (l : Level) (bs : List Byte) : List Event :=
  [.write .dc l, .write .cs .l0, .xferFail bs]

/-- The reset pulse: `W(RST,1) Z(20) W(RST,0) Z(2) W(RST,1) Z(20)` (R138). -/
def evPulse : List Event :=
  [.write .rst .l1, .delay 20, .write .rst .l0, .delay 2, .write .rst .l1, .delay 20]

/-- `n` busy samples, each followed by a delay of the poll interval: `R(BUSY,1) Z(poll)` repeated (R141). -/
def evBusy (poll n : Nat) : List Event :=
  (List.replicate n [Event.readBusy .l1, Event.delay poll]).flatten

/-- A wait that meets idle after `n` busy samples: then `R(BUSY,0) Z(poll)` (R140, R141). -/
def evWait (poll n : Nat) : List Event :=
  evBusy poll n ++ [.readBusy .l0, .delay poll]

/-- A wait whose first `n + 1` samples are all busy, the last one with no delay after it (R140). -/
def evTimeout (poll n : Nat) : List Event :=
  evBusy poll n ++ [.readBusy .l1]

/-- The transfers of one wire command, a command item and one transfer per payload byte (R74, R135). -/
def evCommand (w : WireCommand) : List Event :=
  evTransfer .l0 [w.op] ++ w.payload.flatMap fun b => evTransfer .l1 [b]

/-- The transfers of several wire commands in order. -/
def evCommands (ws : List WireCommand) : List Event :=
  ws.flatMap evCommand

/-- The two transfers of a frame: the command, then the buffer whole (R223). -/
def evFrame (op : Byte) (bs : List Byte) : List Event :=
  evTransfer .l0 [op] ++ evTransfer .l1 bs

/-! ### Wire commands as the spec lists them -/

/-- The low byte of a number. -/
def byteLow (n : Nat) : Byte := BitVec.ofNat 8 (n % 256)

/-- The next byte of a number. -/
def byteHigh (n : Nat) : Byte := BitVec.ofNat 8 (n / 256)

/-- The wire command of 0x44: low byte and high two bits of each X (R76). -/
def listXWindow (x0 x1 : Nat) : WireCommand := ⟨0x44, [byteLow x0, byteHigh x0, byteLow x1, byteHigh x1]⟩
/-- The wire command of 0x45: low and high byte of each Y (R77). -/
def listYWindow (y0 y1 : Nat) : WireCommand := ⟨0x45, [byteLow y0, byteHigh y0, byteLow y1, byteHigh y1]⟩
/-- The wire command of 0x4E (R76). -/
def listXCounter (x : Nat) : WireCommand := ⟨0x4E, [byteLow x, byteHigh x]⟩
/-- The wire command of 0x4F (R77). -/
def listYCounter (y : Nat) : WireCommand := ⟨0x4F, [byteLow y, byteHigh y]⟩

/-- The register block of every initialisation with its border byte, window `(0, H - 1, W - 1, 0)` and cursor `(0, 0)`
(the listing of R201, R202). -/
def listRegs (c : Config) (border : Byte) : List WireCommand :=
  [⟨0x18, [0x80]⟩, ⟨0x0C, [0xAE, 0xC7, 0xC3, 0xC0, 0x80]⟩,
    ⟨0x01, [byteLow (height c - 1), byteHigh (height c - 1), 0x02]⟩, ⟨0x3C, [border]⟩, ⟨0x11, [0x01]⟩,
    listXWindow 0 (width c - 1), listYWindow (height c - 1) 0, listXCounter 0, listYCounter 0]

/-- The fast-mode flag step: `C 22 D 91`, `C 20` (R203). -/
def listFastFlag : List WireCommand := [⟨0x22, [0x91]⟩, ⟨0x20, []⟩]

/-- The waveform table over its four commands (R184, R84). -/
def listLut (c : Config) : List WireCommand :=
  [⟨0x32, c.lut.toList.take 105⟩, ⟨0x03, [c.lut[105]]⟩, ⟨0x04, [c.lut[106], c.lut[107], c.lut[108]]⟩,
    ⟨0x2C, [c.lut[109]]⟩]

/-- The activation bytes: Full 0xF7, Fast and Grayscale 0xC7, Partial 0xFF (R186). -/
def actByte (m : Mode) : Byte :=
  match m with
  | .full => 0xF7
  | .fast => 0xC7
  | .part => 0xFF
  | .grayscale => 0xC7

/-- The trigger: `C 22 D act`, `C 20` (R186). -/
def listTrigger (m : Mode) : List WireCommand := [⟨0x22, [actByte m]⟩, ⟨0x20, []⟩]

/-- The byte-exact wire table (S8, R151 to R169) for the commands that are sent byte by byte; none for the two frame
commands and for the host operations. -/
def wireTable (c : Config) (i : Instr) : Option WireCommand :=
  match i with
  | .wireDriverOutputControl => some ⟨0x01, [byteLow (height c - 1), byteHigh (height c - 1), 0x02]⟩
  | .wireDataEntryMode => some ⟨0x11, [0x01]⟩
  | .wireResetDeepSleep => some ⟨0x12, []⟩
  | .wireSetRamXWindow x0 x1 => some (listXWindow x0.toNat x1.toNat)
  | .wireSetRamYWindow y0 y1 => some (listYWindow y0.toNat y1.toNat)
  | .wireBorderWaveform .full => some ⟨0x3C, [0x01]⟩
  | .wireBorderWaveform .part => some ⟨0x3C, [0x80]⟩
  | .wireBoosterSoftStart => some ⟨0x0C, [0xAE, 0xC7, 0xC3, 0xC0, 0x80]⟩
  | .wireTempSensorSelect => some ⟨0x18, [0x80]⟩
  | .wireSetRamXAddrCounter x => some (listXCounter x.toNat)
  | .wireSetRamYAddrCounter y => some (listYCounter y.toNat)
  | .wireDisplayUpdateControl2 .actFull => some ⟨0x22, [0xF7]⟩
  | .wireDisplayUpdateControl2 .actFast => some ⟨0x22, [0xC7]⟩
  | .wireDisplayUpdateControl2 .actPart => some ⟨0x22, [0xFF]⟩
  | .wireDisplayUpdateControl2 .fastFlag => some ⟨0x22, [0x91]⟩
  | .wireMasterActivation => some ⟨0x20, []⟩
  | .wireWriteLutRegister => some ⟨0x32, c.lut.toList.take 105⟩
  | .wireGateLineEnd => some ⟨0x03, [c.lut[105]]⟩
  | .wireGateDrivingVoltage => some ⟨0x04, [c.lut[106], c.lut[107], c.lut[108]]⟩
  | .wireVcomRegister => some ⟨0x2C, [c.lut[109]]⟩
  | .wireDeepSleep => some ⟨0x10, [0x01]⟩
  | _ => none

/-- The one-byte transfers of several wire commands, each with its DC level (R131, R135). -/
def itemList (ws : List WireCommand) : List (Level × Byte) :=
  ws.flatMap fun w => (Level.l0, w.op) :: w.payload.map fun b => (Level.l1, b)

/-- The events of one-byte transfers. -/
def evItems (xs : List (Level × Byte)) : List Event :=
  xs.flatMap fun x => evTransfer x.1 [x.2]

/-- The wire commands of an initialisation in order (R201, R203, R204, R205). -/
def listInit (c : Config) (m : Mode) (loaded : Bool) : List WireCommand :=
  match m, loaded with
  | .full, _ => ⟨0x12, []⟩ :: listRegs c 0x01
  | .fast, _ => ⟨0x12, []⟩ :: listRegs c 0x01 ++ listFastFlag
  | .part, _ => listRegs c 0x80
  | .grayscale, true => ⟨0x12, []⟩ :: listRegs c 0x01 ++ listFastFlag
  | .grayscale, false => ⟨0x12, []⟩ :: listRegs c 0x01 ++ listFastFlag ++ listLut c

/-- The frame commands of a mode (R223). -/
def listFrames (c : Config) (m : Mode) (buf : List Byte) : List WireCommand :=
  match m with
  | .grayscale => [⟨0x24, repackPlane c plane1Rule buf⟩, ⟨0x26, repackPlane c plane2Rule buf⟩]
  | _ => [⟨0x24, buf⟩]

/-! ### Premises about ENV (R32) -/

/-- The next `n` transfers succeed. -/
def transfersSucceed (n : Nat) (s : State) : Prop :=
  oracleAnswers Config.freeSpi n s.spi = List.replicate n true

/-- The next `n` transfers succeed and the one after them fails. -/
def transferFailsAfter (n : Nat) (s : State) : Prop :=
  oracleAnswers Config.freeSpi (n + 1) s.spi = List.replicate n true ++ [false]

/-- The samples of waits that meet idle after `ns` busy samples each. -/
def samples (ns : List Nat) : List Level :=
  ns.flatMap fun n => List.replicate n Level.l1 ++ [Level.l0]

/-- How many reads of BUSY those waits make. -/
def readsOf (ns : List Nat) : Nat := (ns.map (· + 1)).sum

/-- The next waits meet idle, the k-th after `ns[k]` busy samples, each within the bound: `n + 1 <= BUSY_MAX_POLLS`. -/
def waitsMeetIdle (ns : List Nat) (s : State) : Prop :=
  (∀ n ∈ ns, n + 1 ≤ busyMaxPolls s.cfg) ∧ oracleAnswers Config.freeBusy (readsOf ns) s.busy = samples ns

/-- The next wait reads busy to its bound. -/
def waitTimesOut (s : State) : Prop :=
  oracleAnswers Config.freeBusy (busyMaxPolls s.cfg) s.busy = List.replicate (busyMaxPolls s.cfg) Level.l1

/-- Acquire succeeds: the bus is held, or the next ModInit returns MODINIT_OK = 0 (R130). -/
def busTakes (s : State) : Prop :=
  s.busHeld = true ∨ modInitStatus s = 0

/-! ### The states operations end in -/

/-- After Acquire: nothing changes when the bus is held; otherwise `MI(0)`, latches `U`, bus held (R130, R26). -/
def tookBus (s : State) : State :=
  if s.busHeld then s
  else { s with
    busHeld := true
    trace := s.trace ++ [.modInit 0]
    pinRst := none
    pinDc := none
    pinCs := none
    modInit := oracleAdvance s.modInit }

/-- After `n` successful transfers with the events `evs`, the last with DC at `l`: the trace, two latches and ENV's
counter of transfers move, nothing else. -/
def sent (n : Nat) (l : Level) (evs : List Event) (s : State) : State :=
  { s with
    trace := s.trace ++ evs
    pinDc := some l
    pinCs := some .l1
    spi := oracleSkip n s.spi }

/-- After `n` successful transfers and a failed one of `bs` with DC at `l`: the error, the trace, CS left selected;
every register as it was (R133, R257). -/
def sendFailed (n : Nat) (l : Level) (bs : List Byte) (evs : List Event) (s : State) : State :=
  { s with
    trace := s.trace ++ evs ++ evFailed l bs
    pinDc := some l
    pinCs := some .l0
    spi := oracleSkip (n + 1) s.spi
    answer := some (.error (.busTransaction l bs)) }

/-- An operation that sends the wire commands `ws` byte by byte aborts at the first transfer that fails: what went before
is sent, that transfer fails with its DC level and its byte, and nothing follows (R133, R253, R257). -/
def abortsAtFailure (i : Instr) (ws : List WireCommand) (s : State) : Prop :=
  ∀ k x, (itemList ws)[k]? = some x → transferFailsAfter k s →
    exec i s = .next (sendFailed k x.1 [x.2] (evItems ((itemList ws).take k)) s)

/-- The answer OK with no value. -/
def okAnswer : Option Answer := some (.ok .none)

/-- The number of transfers of an initialisation (R207). -/
def initTransfers (m : Mode) (loaded : Bool) : Nat :=
  match m, loaded with
  | .full, _ => 33
  | .fast, _ => 36
  | .part, _ => 32
  | .grayscale, false => 150
  | .grayscale, true => 36

/-- The number of busy waits of an initialisation (R207). -/
def initWaits (m : Mode) (loaded : Bool) : Nat :=
  match m, loaded with
  | .full, _ => 3
  | .fast, _ => 4
  | .part, _ => 2
  | .grayscale, false => 5
  | .grayscale, true => 4

/-- The number of commands of an initialisation (R207). -/
def initCommands (m : Mode) (loaded : Bool) : Nat :=
  match m, loaded with
  | .full, _ => 10
  | .fast, _ => 12
  | .part, _ => 9
  | .grayscale, false => 16
  | .grayscale, true => 12

/-- The number of data bytes of an initialisation (R207). -/
def initDataBytes (m : Mode) (loaded : Bool) : Nat :=
  match m, loaded with
  | .full, _ => 23
  | .fast, _ => 24
  | .part, _ => 23
  | .grayscale, false => 134
  | .grayscale, true => 24

/-- A successful transfer. -/
def Event.isXfer (e : Event) : Bool :=
  match e with
  | .xfer _ => true
  | _ => false

/-- A command item. -/
def isCommandItem (w : WireItem) : Bool :=
  match w with
  | .c _ => true
  | .d _ => false

/-- The events of an initialisation after Acquire, its k-th wait meeting idle after `ns[k]` busy samples
(R201, R203, R204, R205). -/
def evInit (c : Config) (m : Mode) (loaded : Bool) (ns : List Nat) : List Event :=
  let wait (k : Nat) : List Event := evWait 20 (ns.getD k 0)
  let start := evPulse ++ wait 0
  let full := start ++ evCommand ⟨0x12, []⟩ ++ wait 1 ++ evCommands (listRegs c 0x01) ++ wait 2
  let fast := full ++ evCommands listFastFlag ++ wait 3
  match m, loaded with
  | .full, _ => full
  | .fast, _ => fast
  | .part, _ => start ++ evCommands (listRegs c 0x80) ++ wait 1
  | .grayscale, true => fast
  | .grayscale, false => fast ++ evCommands (listLut c) ++ wait 4

/-- The DC level an initialisation leaves: that of its last transfer. -/
def initLastDc (m : Mode) (loaded : Bool) : Level :=
  match m, loaded with
  | .full, _ => .l1
  | .part, _ => .l1
  | .fast, _ => .l0
  | .grayscale, true => .l0
  | .grayscale, false => .l1

/-- S.lutLoaded after an initialisation (R205). -/
def initLut (m : Mode) (loaded : Bool) : Bool :=
  match m with
  | .grayscale => true
  | _ => loaded

/-- The state after a successful INIT.m from `s` (R200 to R205). -/
def afterInit (m : Mode) (ns : List Nat) (s : State) : State :=
  { tookBus s with
    st := .ready
    mode := some m
    lutLoaded := initLut m s.lutLoaded
    trace := (tookBus s).trace ++ evInit s.cfg m s.lutLoaded ns
    pinRst := some .l1
    pinDc := some (initLastDc m s.lutLoaded)
    pinCs := some .l1
    busy := oracleSkip (readsOf ns) s.busy
    spi := oracleSkip (initTransfers m s.lutLoaded) s.spi
    answer := okAnswer }

/-- Partial iff it is preferred and the count is below the limit, else the content type (R221). -/
def actualMode (m : Mode) (preferPartial : Bool) (s : State) : Mode :=
  if preferPartial = true ∧ s.prc.toNat < s.cfg.partialLimit.toNat then .part else m

/-- The frame transfers of a mode (R223). -/
def evFrames (c : Config) (m : Mode) (buf : List Byte) : List Event :=
  match m with
  | .grayscale => evFrame 0x24 (repackPlane c plane1Rule buf) ++ evFrame 0x26 (repackPlane c plane2Rule buf)
  | _ => evFrame 0x24 buf

/-- The number of frame transfers of a mode (R223). -/
def frameTransferCount (m : Mode) : Nat :=
  match m with
  | .grayscale => 4
  | _ => 2

/-- The number of transfers of a whole refresh. -/
def refreshTransfers (m : Mode) (loaded : Bool) : Nat :=
  initTransfers m loaded + frameTransferCount m + 3

/-- The count after a refresh in a mode: Full resets it, Partial increments it (R224). -/
def countAfter (m : Mode) (n : BitVec 16) : BitVec 16 :=
  match m with
  | .full => 0
  | .part => n + 1
  | .fast => n
  | .grayscale => n

/-- The state after a successful REFRESH that ran in mode `m` (R220, R223, R224): `ns` are the waits of the
initialisation and, last, the wait of the trigger. -/
def afterRefresh (m : Mode) (buf : List Byte) (ns : List Nat) (s : State) : State :=
  { tookBus s with
    st := .ready
    mode := some m
    lutLoaded := initLut m s.lutLoaded
    prc := countAfter m s.prc
    orchMode := some m
    trace := (tookBus s).trace ++ evInit s.cfg m s.lutLoaded ns ++ evFrames s.cfg m buf ++
      evCommands (listTrigger m) ++ evWait 20 (ns.getD (initWaits m s.lutLoaded) 0)
    pinRst := some .l1
    pinDc := some .l0
    pinCs := some .l1
    busy := oracleSkip (readsOf ns) s.busy
    spi := oracleSkip (refreshTransfers m s.lutLoaded) s.spi
    answer := okAnswer }

/-- What a refresh that runs in mode `m` needs of ENV to succeed: the bus, `ns` waits and every transfer. -/
def refreshEnv (m : Mode) (ns : List Nat) (s : State) : Prop :=
  busTakes s ∧ ns.length = initWaits m s.lutLoaded + 1 ∧ waitsMeetIdle ns s ∧
    transfersSucceed (refreshTransfers m s.lutLoaded) s

/-! ### Operations by kind -/

/-- Host operations, as against wire commands (R70, R74). -/
def isHostOp (i : Instr) : Bool :=
  match i with
  | .wireDriverOutputControl => false
  | .wireDataEntryMode => false
  | .wireResetDeepSleep => false
  | .wireSetRamXWindow _ _ => false
  | .wireSetRamYWindow _ _ => false
  | .wireBorderWaveform _ => false
  | .wireBoosterSoftStart => false
  | .wireTempSensorSelect => false
  | .wireSetRamXAddrCounter _ => false
  | .wireSetRamYAddrCounter _ => false
  | .wireDisplayUpdateControl2 _ => false
  | .wireMasterActivation => false
  | .wireWriteLutRegister => false
  | .wireGateLineEnd => false
  | .wireGateDrivingVoltage => false
  | .wireVcomRegister => false
  | .wireWriteBwRamPlane1 _ => false
  | .wireWriteBwRamPlane2 _ => false
  | .wireDeepSleep => false
  | _ => true

/-- The entry states of the host operations, row by row (R24). A wire command on its own: Ready (log entry 8). -/
def allowedEntry (i : Instr) : List St :=
  match i with
  | .encMono _ | .encGray _ | .repack _ | .fpCompute _ | .shouldUpdate _ _ =>
    [.uninitialized, .resetting, .awaitingBusyClear, .ready, .transmittingCommand, .transmittingData,
      .triggeringRefresh, .sleeping]
  | .reset | .initFull | .initFast | .initPartial | .initGrayscale =>
    [.uninitialized, .awaitingBusyClear, .ready, .sleeping]
  | .refreshFull _ _ | .refreshFast _ _ | .refreshGrayscale _ _ => [.uninitialized, .awaitingBusyClear, .ready, .sleeping]
  | .updateFull _ _ _ | .updateFast _ _ _ | .updateGrayscale _ _ _ =>
    [.uninitialized, .awaitingBusyClear, .ready, .sleeping]
  | .waitIdle _ => [.awaitingBusyClear, .ready]
  | _ => [.ready]

/-- The operand preconditions: (c) REPACK's length, (d) REFRESH's length and partial preference for grayscale, (e) the
table not yet loaded for LOAD_LUT (R255). -/
def operandsAccepted (i : Instr) (s : State) : Prop :=
  match i with
  | .repack g => g.length = grayLen s.cfg
  | .refreshFull buf _ | .refreshFast buf _ => buf.length = monoLen s.cfg
  | .refreshGrayscale buf pp => buf.length = grayLen s.cfg ∧ pp = false
  | .updateGrayscale _ pp _ => pp = false
  | .loadLut => s.lutLoaded = false
  | _ => True

/-- `S.st` after an operation that answered OK with value `v` (R24). -/
def endSt (i : Instr) (v : Value) (entry : St) : St :=
  match i with
  | .encMono _ | .encGray _ | .repack _ | .fpCompute _ | .shouldUpdate _ _ => entry
  | .reset => .awaitingBusyClear
  | .sleep => .sleeping
  | .updateFull _ _ _ | .updateFast _ _ _ | .updateGrayscale _ _ _ => if v = .transmitted false then entry else .ready
  | _ => .ready

/-- Which host operation can answer with which class: HardwareInit 1, DeviceNotResponding 2, BusTransaction 3,
UnsupportedImageDimensions 4, Refused 5 (the table of R256). -/
def canAnswer (i : Instr) (cls : Nat) : Bool :=
  match i with
  | .encMono _ | .encGray _ => [0, 4].contains cls
  | .repack _ => [0, 5].contains cls
  | .fpCompute _ | .shouldUpdate _ _ => [0].contains cls
  | .reset => [0, 1].contains cls
  | .waitIdle _ => [0, 2, 5].contains cls
  | .sendCmd _ | .sendData _ | .sendBulk _ | .setWindow _ _ _ _ | .setCursor _ _ => [0, 3, 5].contains cls
  | .loadLut => [0, 3, 5].contains cls
  | .initFull | .initFast | .initPartial | .initGrayscale => [0, 1, 2, 3].contains cls
  | .triggerFull | .triggerFast | .triggerPartial | .triggerGrayscale => [0, 2, 3, 5].contains cls
  | .sleep => [0, 3, 5].contains cls
  | .refreshFull _ _ | .refreshFast _ _ | .refreshGrayscale _ _ => [0, 1, 2, 3, 5].contains cls
  | .updateFull _ _ _ | .updateFast _ _ _ | .updateGrayscale _ _ _ => [0, 1, 2, 3, 4, 5].contains cls
  | _ => true

/-- The opcodes of the common register block: sent by every INIT (R170). -/
def regOpcodes : List Byte := [0x18, 0x0C, 0x01, 0x3C, 0x11, 0x44, 0x45, 0x4E, 0x4F]

/-- The wire opcodes an operation may send (the table of R170); SEND_CMD sends its operand (R87). -/
def mayCommand (i : Instr) (b : Byte) : Bool :=
  match i with
  | .sendCmd op => b == op
  | .setWindow _ _ _ _ => [0x44, 0x45].contains b
  | .setCursor _ _ => [0x4E, 0x4F].contains b
  | .loadLut => [0x32, 0x03, 0x04, 0x2C].contains b
  | .initFull => (0x12 :: regOpcodes).contains b
  | .initFast => ([0x12, 0x22, 0x20] ++ regOpcodes).contains b
  | .initPartial => regOpcodes.contains b
  | .initGrayscale => ([0x12, 0x22, 0x20, 0x32, 0x03, 0x04, 0x2C] ++ regOpcodes).contains b
  | .triggerFull | .triggerFast | .triggerPartial | .triggerGrayscale => [0x22, 0x20].contains b
  | .sleep => b == 0x10
  | .refreshFull _ _ | .refreshFast _ _ | .updateFull _ _ _ | .updateFast _ _ _ =>
    ([0x12, 0x22, 0x20, 0x24] ++ regOpcodes).contains b
  | .refreshGrayscale _ _ | .updateGrayscale _ _ _ =>
    ([0x12, 0x22, 0x20, 0x32, 0x03, 0x04, 0x2C, 0x24, 0x26] ++ regOpcodes).contains b
  | _ => false

/-- Which instructions write S.mode: INIT, SLEEP, and REFRESH and UPDATE through INIT (R17). -/
def writesMode (i : Instr) : Bool :=
  match i with
  | .initFull | .initFast | .initPartial | .initGrayscale | .sleep => true
  | .refreshFull _ _ | .refreshFast _ _ | .refreshGrayscale _ _ => true
  | .updateFull _ _ _ | .updateFast _ _ _ | .updateGrayscale _ _ _ => true
  | _ => false

/-- Which instructions can set S.lutLoaded: LOAD_LUT, and those that run INIT.Grayscale (R18). -/
def setsLut (i : Instr) : Bool :=
  match i with
  | .loadLut | .initGrayscale | .refreshGrayscale _ _ | .updateGrayscale _ _ _ => true
  | _ => false

/-- Which instructions can set S.busHeld: those that call Acquire (R19, R130). -/
def setsBus (i : Instr) : Bool :=
  match i with
  | .reset | .initFull | .initFast | .initPartial | .initGrayscale => true
  | .refreshFull _ _ | .refreshFast _ _ | .refreshGrayscale _ _ => true
  | .updateFull _ _ _ | .updateFast _ _ _ | .updateGrayscale _ _ _ => true
  | _ => false

/-- Which instructions write S.prc and S.orchMode: REFRESH, and UPDATE through it (R20, R224). -/
def writesCount (i : Instr) : Bool :=
  match i with
  | .refreshFull _ _ | .refreshFast _ _ | .refreshGrayscale _ _ => true
  | .updateFull _ _ _ | .updateFast _ _ _ | .updateGrayscale _ _ _ => true
  | _ => false

/-- The content type and the partial preference a REFRESH or an UPDATE is asked with (R72, R220, R229). -/
def askedMode (i : Instr) : Option (Mode × Bool) :=
  match i with
  | .refreshFull _ pp => some (.full, pp)
  | .refreshFast _ pp => some (.fast, pp)
  | .refreshGrayscale _ pp => some (.grayscale, pp)
  | .updateFull _ pp _ => some (.full, pp)
  | .updateFast _ pp _ => some (.fast, pp)
  | .updateGrayscale _ pp _ => some (.grayscale, pp)
  | _ => none

/-- UPDATE: the only writer of S.fp and S.fpValid (R21, R230). -/
def isUpdate (i : Instr) : Bool :=
  match i with
  | .updateFull _ _ _ | .updateFast _ _ _ | .updateGrayscale _ _ _ => true
  | _ => false

/-! ### The panel-space image -/

/-- The raster pixel that lands at panel position `(px, py)`: Identity is tested first, so a square raster is not
turned (R101, R103). -/
def pixelAt (c : Config) (img : Raster) (px py : Nat) : Byte :=
  if img.iw = width c ∧ img.ih = height c then img.pix.getD (px + py * img.iw) 0
  else img.pix.getD ((height c - 1 - py) + px * img.iw) 0

/-- A raster in panel shape or transposed (R41, R101). -/
def shapeFits (c : Config) (img : Raster) : Prop :=
  (img.iw = width c ∧ img.ih = height c) ∨ (img.iw = height c ∧ img.ih = width c)

/-- `w` is `t` turned 90 degrees counter-clockwise into panel shape: `w.pix(px, py) = t.pix(H - 1 - py, px)` (S2,
R103). -/
def turned (c : Config) (t w : Raster) : Prop :=
  w.iw = width c ∧ w.ih = height c ∧ w.depth = t.depth ∧
    ∀ px py, px < width c → py < height c → rasterPixel w px py = rasterPixel t (height c - 1 - py) px

/-- `k` successful calls of `REFRESH.Full(buf, 1)`, one after the other, from `s` to `t` (R231). -/
def refreshChain (buf : List Byte) : Nat → State → State → Prop
  | 0, s, t => s = t
  | k + 1, s, t =>
    ∃ u, exec (.refreshFull buf true) s = .next u ∧ u.answer = okAnswer ∧ refreshChain buf k u t

/-! ### The invariant -/

/-- Whether the bus handle is held after a trace: ModInit has succeeded and ModExit has not been called since (R19),
reading on from `b`. -/
def heldFrom : Bool → List Event → Bool
  | b, [] => b
  | b, .modInit n :: rest => heldFrom (if n = 0 then true else b) rest
  | _, .modExit :: rest => heldFrom false rest
  | b, _ :: rest => heldFrom b rest

/-- The last transfer of the waveform table has succeeded: among the whole commands on the wire is 0x2C with `LUT[109]`
(R18, R184). -/
def tableSent (c : Config) (evs : List Event) : Prop :=
  (⟨0x2C, [c.lut[109]]⟩ : WireCommand) ∈ (cutItems (wire evs)).2

/-- An operation that ended in the error `e` had got to its frame, past its INIT: `C(24)` is on the wire, or is the transfer
that failed (R223, R225). -/
def frameReached (e : Raise) (evs : List Event) : Prop :=
  WireItem.c 0x24 ∈ wire evs ∨ e = .busTransaction .l0 [0x24]

/-- Every transfer of a trace happens with DC written and the chip selected (R26, R54, R131), reading on from the levels
of DC and CS. -/
def transfersFramed : Option Level → Option Level → List Event → Bool
  | _, _, [] => true
  | dc, cs, .xfer _ :: rest => dc.isSome && cs == some Level.l0 && transfersFramed dc cs rest
  | dc, cs, .xferFail _ :: rest => dc.isSome && cs == some Level.l0 && transfersFramed dc cs rest
  | _, cs, .write .dc l :: rest => transfersFramed (some l) cs rest
  | dc, _, .write .cs l :: rest => transfersFramed dc (some l) rest
  | dc, cs, .write .rst _ :: rest => transfersFramed dc cs rest
  | _, _, .modInit _ :: rest => transfersFramed none none rest
  | _, _, .modExit :: rest => transfersFramed none none rest
  | dc, cs, .readBusy _ :: rest => transfersFramed dc cs rest
  | dc, cs, .delay _ :: rest => transfersFramed dc cs rest

/-- The invariant of the core between two operations. -/
structure Inv (s : State) : Prop where
  /-- `S.st` is one of the four visible values (R16) -/
  visible : s.st = .uninitialized ∨ s.st = .awaitingBusyClear ∨ s.st = .ready ∨ s.st = .sleeping
  /-- AwaitingBusyClear or Ready only while the bus is held (R19) -/
  held : s.st = .awaitingBusyClear ∨ s.st = .ready → s.busHeld = true
  /-- the count never passes the limit (R20) -/
  count : s.prc.toNat ≤ s.cfg.partialLimit.toNat
  /-- without the bus there is no session: no table loaded, no mode (R15, R188) -/
  session : s.busHeld = false → s.lutLoaded = false ∧ s.mode = none
  /-- `S.busHeld` is what the trace says (R19) -/
  handle : s.busHeld = heldFrom false s.trace
  /-- each latch is what the trace says (R26) -/
  rst : s.pinRst = latchFrom .rst none s.trace
  dc : s.pinDc = latchFrom .dc none s.trace
  cs : s.pinCs = latchFrom .cs none s.trace
  /-- every transfer was framed (R26, R54) -/
  framed : transfersFramed none none s.trace = true

end Sys2Proof.Machine
end

