-- ==== Sys2Proof/Certificates/Slice0/Obligations.lean ====
section
/-! DEFINITION. The statements for the provers, one `def Obligations.<Name> : Prop` each. Terms: Safety.lean. A rule R<n> is
a rule of spec/. A statement about `exec` as an equation `exec i s = .next ...` names every field that changes, so it states
the instruction's effect and its frame at once. -/

open Sys2Proof Sys2Proof.Machine

/-! ### Encodings -/

/-- Bytes written out from R70 (`0x80 | opnum << 2 | m`) and R80, one or more of each family, decode to what they stand
for. -/
def Obligations.WordsOfEachFamilyDecode : Prop :=
  (∀ a, decodeOp 0b10000100 a = .instr (.encMono a.img)) ∧
  (∀ a, decodeOp 0b10001100 a = .instr (.repack a.buf)) ∧
  (∀ a, decodeOp 0b10010100 a = .instr (.waitIdle a.poll)) ∧
  (∀ a, decodeOp 0b10100100 a = .instr (.setWindow a.x0 a.y0 a.x1 a.y1)) ∧
  (∀ a, decodeOp 0b10110011 a = .instr .initGrayscale) ∧
  (∀ a, decodeOp 0b10110110 a = .instr .triggerPartial) ∧
  (∀ a, decodeOp 0b10111101 a = .instr (.refreshFast a.buf a.preferPartial)) ∧
  (∀ a, decodeOp 0b11001011 a = .instr (.updateGrayscale a.img a.preferPartial a.force)) ∧
  (∀ a, decodeWire 0x44 a = .instr (.wireSetRamXWindow a.x0 a.x1)) ∧
  (∀ a, decodeWire 0x2C a = .instr .wireVcomRegister)

/-- R85, R86: the op bytes that name an operation are exactly 28. -/
def Obligations.ExactlyTwentyEightOpBytes : Prop :=
  ∀ (byte : Byte) (a : Args), (∃ i, decodeOp byte a = .instr i) ↔
    byte.toNat ∈ [0x84, 0x88, 0x8C, 0x90, 0x94, 0x98, 0x9C, 0xA0, 0xA4, 0xA8, 0xAC, 0xB0, 0xB1, 0xB2, 0xB3, 0xB4, 0xB5,
      0xB6, 0xB7, 0xB8, 0xBC, 0xBD, 0xBF, 0xC0, 0xC4, 0xC8, 0xC9, 0xCB]

/-- R85: an op byte with bit 7 clear, with opnum 0 or 19 to 31, with a mode in an operation that takes none, or with
mode 2 in REFRESH or UPDATE: "The core answers `Refused` and changes nothing." Here opnum is `byte / 4 % 32` and m is
`byte % 4`; INIT, TRIGGER, REFRESH, UPDATE are 12, 13, 15, 18. The request is taken off the inbox (log entry 3). -/
def Obligations.IllFormedOpByteIsRefused : Prop :=
  ∀ (s : State) (byte : Byte) (a : Args) (rest : List Request), s.inbox = .op byte a :: rest →
    (byte.toNat < 128 ∨ byte.toNat / 4 % 32 = 0 ∨ 19 ≤ byte.toNat / 4 % 32 ∨
      (byte.toNat % 4 ≠ 0 ∧ byte.toNat / 4 % 32 ∉ [12, 13, 15, 18]) ∨
      (byte.toNat % 4 = 2 ∧ byte.toNat / 4 % 32 ∈ [15, 18])) →
    step s = .next { s with inbox := rest, answer := some .refused }

/-- Decoding the request an instruction is encoded as gives the instruction back, every operand at every value. -/
def Obligations.DecodeOfEncode : Prop :=
  ∀ i : Instr, decodeRequest (encode i) = some (.instr i)

/-- The other direction: a request that decodes to an instruction has that instruction's op byte or wire opcode, so each
byte has one meaning and each instruction one byte. -/
def Obligations.EncodeOfDecode : Prop :=
  (∀ (byte : Byte) (a : Args) (i : Instr), decodeOp byte a = .instr i → ∃ a', encode i = .op byte a') ∧
  (∀ (opcode : Byte) (a : Args) (i : Instr), decodeWire opcode a = .instr i → ∃ a', encode i = .wire opcode a')

/-- The byte-exact wire format loses nothing: the bytes of every wire command, with every operand at every value, read
back as that command (R75 to R78, R82, R84); for a frame command, when its payload is a packed buffer of MONO_LEN
bytes. -/
def Obligations.WireBytesReadBack : Prop :=
  ∀ (c : Config) (i : Instr) (w : WireCommand), wireCommandOf c i = some w →
    (w.op = 0x24 ∨ w.op = 0x26 → w.payload.length = width c / 8 * height c) → parseWire c w = some i

/-- R79: wire items are cut into commands at each C item; a stream of whole commands is cut into those commands. -/
def Obligations.WireStreamCutsAtCommands : Prop :=
  ∀ ws : List WireCommand, cutItems (ws.flatMap wireItems) = ([], ws)

/-! ### The machine -/

/-- R33: the reset values (`S.fp` is unspecified there and not stated; the panel is outside the core), and that the core
waits: with nothing presented a step changes nothing. -/
def Obligations.ResetLeavesTheTable : Prop :=
  State.reset.st = .uninitialized ∧ State.reset.mode = none ∧ State.reset.lutLoaded = false ∧
  State.reset.busHeld = false ∧ State.reset.prc = 0 ∧ State.reset.orchMode = none ∧ State.reset.fpValid = false ∧
  State.reset.pinRst = none ∧ State.reset.pinDc = none ∧ State.reset.pinCs = none ∧ State.reset.trace = [] ∧
  step State.reset = .next State.reset

/-- The invariant holds after reset, whatever the configuration is. -/
def Obligations.InvariantAtReset : Prop := Inv State.reset

/-- The invariant of R16, R19, R20 and R26 (Safety.lean, `Inv`) is kept by every step: the state stays visible, the bus is
held wherever R19 says, the count stays within its limit, the latches and the bus handle are what the trace says, and every
transfer is framed by DC and chip select. -/
def Obligations.StepKeepsInvariant : Prop :=
  ∀ s t : State, Inv s → step s = .next t → Inv t

/-- A step runs the decoded instruction: when the first request decodes to a well-formed instruction, the step is `exec`
of it at the state with that request taken, and nothing else. -/
def Obligations.StepRunsDecodedInstruction : Prop :=
  ∀ (s : State) (r : Request) (rest : List Request) (i : Instr), s.inbox = r :: rest →
    decodeRequest r = some (.instr i) → i.wellFormed = true → step s = exec i { s with inbox := rest }

/-- R280: the core does nothing until something is presented, and a restart re-establishes R33: every register to which R33
gives a value takes it, the trace is empty. The model's choices: that the configuration, ENV and the host's next requests
stay (log entry 12); that `S.fp`, unspecified in R33, is 0 (log entry 5); that the last answer is forgotten (log entry 4). -/
def Obligations.IdleAndRestart : Prop :=
  (∀ s : State, s.inbox = [] → step s = .next s) ∧
  (∀ (s : State) (rest : List Request), s.inbox = .restart :: rest →
    step s = .next { State.reset with cfg := s.cfg, inbox := rest, busy := s.busy, spi := s.spi, modInit := s.modInit })

/-- R4, R56: no instruction writes the configuration or what the host asks next, and the trace only grows: every event of
an operation comes after every event before it. -/
def Obligations.TraceOnlyGrows : Prop :=
  ∀ (i : Instr) (s t : State), exec i s = .next t →
    t.cfg = s.cfg ∧ t.inbox = s.inbox ∧ ∃ more, t.trace = s.trace ++ more

/-- R17 to R21: who writes which register. SLEEP alone clears S.lutLoaded and S.busHeld (R18, R19, R296); a register that
an instruction is not a writer of is unchanged, whatever the answer. -/
def Obligations.OnlyTheNamedWritersWrite : Prop :=
  ∀ (i : Instr) (s t : State), exec i s = .next t →
    (writesMode i = false → t.mode = s.mode) ∧
    (setsLut i = false → t.lutLoaded = true → s.lutLoaded = true) ∧
    (setsBus i = false → t.busHeld = true → s.busHeld = true) ∧
    (i ≠ .sleep → s.lutLoaded = true → t.lutLoaded = true) ∧
    (i ≠ .sleep → s.busHeld = true → t.busHeld = true) ∧
    (writesCount i = false → t.prc = s.prc ∧ t.orchMode = s.orchMode) ∧
    (isUpdate i = false → t.fp = s.fp ∧ t.fpValid = s.fpValid)

/-- R170: the command items an operation puts on the wire are among those the table gives it; R87: the core's own
sequences send the nineteen opcodes and no other, SEND_CMD what it is given. -/
def Obligations.OnlyTableOpcodesAreSent : Prop :=
  ∀ (i : Instr) (s t : State) (more : List Event) (b : Byte), isHostOp i = true → exec i s = .next t →
    t.trace = s.trace ++ more → WireItem.c b ∈ wire more → mayCommand i b = true

/-! ### The framebuffer bit-packer -/

/-- R105: ENC_MONO of a raster of panel shape or its transpose answers MONO_LEN bytes in which the panel pixel
`(px, py)` lies in byte `(px + py * W) / 8` at bit `7 - px % 8`, set iff the pixel is not black (0 at depth 1, below 0x80 at
depth 8); any other shape is answered with UnsupportedImageDimensionsError. Nothing but the answer changes. -/
def Obligations.EncMonoPacksThePanelImage : Prop :=
  ∀ (img : Raster) (s : State),
    (shapeFits s.cfg img → ∃ out : List Byte,
      exec (.encMono img) s = .next { s with answer := some (.ok (.bytes out)) } ∧
      out.length = width s.cfg / 8 * height s.cfg ∧
      ∀ px py, px < width s.cfg → py < height s.cfg →
        (out.getD ((px + py * width s.cfg) / 8) 0).getLsbD (7 - px % 8) =
          (if img.depth = .one then decide (pixelAt s.cfg img px py ≠ 0)
           else decide (0x80 ≤ (pixelAt s.cfg img px py).toNat))) ∧
    (¬ shapeFits s.cfg img →
      exec (.encMono img) s =
        .next { s with answer := some (.error (.unsupportedImageDimensions img.iw img.ih)) })

/-- R107 with R43 and R106: ENC_GRAY answers GRAY_LEN bytes in which the panel pixel `(px, py)` lies in byte
`(px + py * W) / 4`, pixel 0 of a byte in bits 7-6 and pixel 3 in bits 1-0, as the code of its luminance: 0 for 0x00 to
0x3F, 1 for 0x40 to 0x80, 2 for 0x81 to 0xC0, 3 for 0xC1 to 0xFF; a 1-bit pixel is 0x00 or 0xFF. Any other shape is
answered with UnsupportedImageDimensionsError. -/
def Obligations.EncGrayPacksThePanelImage : Prop :=
  ∀ (img : Raster) (s : State),
    (shapeFits s.cfg img → ∃ out : List Byte,
      exec (.encGray img) s = .next { s with answer := some (.ok (.bytes out)) } ∧
      out.length = width s.cfg / 4 * height s.cfg ∧
      ∀ px py, px < width s.cfg → py < height s.cfg →
        ∀ v, v = (if img.depth = .one then (if pixelAt s.cfg img px py = 0 then 0 else 0xFF)
            else (pixelAt s.cfg img px py).toNat) →
          (out.getD ((px + py * width s.cfg) / 4) 0).toNat / 4 ^ (3 - px % 4) % 4 =
            (if v ≤ 0x3F then 0 else if v ≤ 0x80 then 1 else if v ≤ 0xC0 then 2 else 3)) ∧
    (¬ shapeFits s.cfg img →
      exec (.encGray img) s =
        .next { s with answer := some (.error (.unsupportedImageDimensions img.iw img.ih)) })

/-- R110 with R109: REPACK of a buffer of GRAY_LEN bytes answers two planes of MONO_LEN bytes; the bit of panel pixel
`(px, py)`, in byte `(px + py * W) / 8` at bit `7 - px % 8`, is 0 in plane 1 iff the sample is 0xC0 (code 3), and 0 in
plane 2 iff it is 0xC0 or 0x80 (codes 3, 2). A buffer of another length is Refused. -/
def Obligations.RepackSplitsIntoPlanes : Prop :=
  ∀ (g : List Byte) (s : State),
    (g.length = width s.cfg / 4 * height s.cfg → ∃ p1 p2 : List Byte,
      exec (.repack g) s = .next { s with answer := some (.ok (.planes p1 p2)) } ∧
      p1.length = width s.cfg / 8 * height s.cfg ∧ p2.length = width s.cfg / 8 * height s.cfg ∧
      ∀ px py, px < width s.cfg → py < height s.cfg →
        ∀ code, code = (g.getD ((px + py * width s.cfg) / 4) 0).toNat / 4 ^ (3 - px % 4) % 4 →
          (p1.getD ((px + py * width s.cfg) / 8) 0).getLsbD (7 - px % 8) = decide (code ≠ 3) ∧
          (p2.getD ((px + py * width s.cfg) / 8) 0).getLsbD (7 - px % 8) = decide (code < 2)) ∧
    (g.length ≠ width s.cfg / 4 * height s.cfg → exec (.repack g) s = .next { s with answer := some .refused })

/-- S1: "`encodeMonochrome` on an all-white panel-sized image yields a buffer ..., every byte 0xFF; an all-black image
yields every byte 0x00", for both depths and both orientations. -/
def Obligations.AllWhiteAndAllBlack : Prop :=
  ∀ (img : Raster) (s : State), shapeFits s.cfg img → img.wellFormed = true →
    ((∀ v ∈ img.pix, v = (if img.depth = .one then 0x01 else 0xFF)) →
      exec (.encMono img) s =
        .next { s with answer := some (.ok (.bytes (List.replicate (width s.cfg / 8 * height s.cfg) 0xFF))) }) ∧
    ((∀ v ∈ img.pix, v = 0) →
      exec (.encMono img) s =
        .next { s with answer := some (.ok (.bytes (List.replicate (width s.cfg / 8 * height s.cfg) 0x00))) })

/-- S3: a run of each of the four luminance buckets packs to one byte: 0xFF to FF, 0xC0 to AA, 0x80 to 55, 0x00 to 00;
stated for a whole raster of one bucket. -/
def Obligations.UniformBucketsPackToOneByte : Prop :=
  ∀ (img : Raster) (s : State) (v b : Byte), shapeFits s.cfg img → img.wellFormed = true → img.depth = .eight →
    (v, b) ∈ [((0xFF : Byte), (0xFF : Byte)), (0xC0, 0xAA), (0x80, 0x55), (0x00, 0x00)] → (∀ p ∈ img.pix, p = v) →
    exec (.encGray img) s =
      .next { s with answer := some (.ok (.bytes (List.replicate (width s.cfg / 4 * height s.cfg) b))) }

/-- S2, R103: "encoding a transposed (height×width) image with the defined remap produces pixel-identical output to
rotating the image 90° then encoding at identity orientation"; the turn is counter-clockwise. A square raster counts as
Identity (R101) and is not turned, so `W` and `H` differ here. -/
def Obligations.TransposedEncodesAsTurned : Prop :=
  ∀ (s : State) (t w : Raster), width s.cfg ≠ height s.cfg → t.iw = height s.cfg → t.ih = width s.cfg →
    turned s.cfg t w → exec (.encMono t) s = exec (.encMono w) s ∧ exec (.encGray t) s = exec (.encGray w) s

/-- R58, R112: the codec operations, FP_COMPUTE and SHOULD_UPDATE perform no bus event and touch no register: nothing but
the answer changes. -/
def Obligations.PureOperationsTouchNothing : Prop :=
  ∀ (i : Instr) (s : State),
    ((∃ img, i = .encMono img) ∨ (∃ img, i = .encGray img) ∨ (∃ g, i = .repack g) ∨ (∃ img, i = .fpCompute img) ∨
      (∃ fp force, i = .shouldUpdate fp force)) →
    ∃ a, exec i s = .next { s with answer := some a }

/-! ### Bus primitives -/

/-- R138: RESET takes the bus if it is not held, pulses the reset line and ends in AwaitingBusyClear; when ModInit fails
it answers HardwareInitError with its status before any pin event, and no register moves. -/
def Obligations.ResetPulsesAndAwaits : Prop :=
  ∀ s : State, s.st ∈ [St.uninitialized, .awaitingBusyClear, .ready, .sleeping] →
    (busTakes s → exec .reset s = .next { tookBus s with
      st := .awaitingBusyClear
      trace := (tookBus s).trace ++ evPulse
      pinRst := some .l1
      answer := okAnswer }) ∧
    (¬ busTakes s → exec .reset s = .next { s with
      trace := s.trace ++ [.modInit (modInitStatus s)]
      pinRst := none
      pinDc := none
      pinCs := none
      modInit := oracleAdvance s.modInit
      answer := some (.error (.hardwareInit (modInitStatus s))) })

/-- R140, R141: WAIT_IDLE with BUSY busy `n` times and then idle, within the bound, makes exactly `n + 1` reads and `n + 1`
delays and ends in Ready; when every one of the BUSY_MAX_POLLS reads is busy it answers DeviceNotRespondingError with
that number, directly after the last read, and `S.st` is the entry value. An absent poll operand is 20. -/
def Obligations.WaitIdlePollsToItsBound : Prop :=
  ∀ (s : State) (poll : Option Nat), s.st = .awaitingBusyClear ∨ s.st = .ready →
    (∀ n, waitsMeetIdle [n] s → exec (.waitIdle poll) s = .next { s with
      st := .ready
      trace := s.trace ++ evWait (poll.getD 20) n
      busy := oracleSkip (n + 1) s.busy
      answer := okAnswer }) ∧
    (waitTimesOut s → exec (.waitIdle poll) s = .next { s with
      trace := s.trace ++ evTimeout (poll.getD 20) (busyMaxPolls s.cfg - 1)
      busy := oracleSkip (busyMaxPolls s.cfg) s.busy
      answer := some (.error (.deviceNotResponding (busyMaxPolls s.cfg))) })

/-- R140, R302: whatever ENV answers, WAIT_IDLE makes at most BUSY_MAX_POLLS reads of BUSY and asks for at most
`BUSY_MAX_POLLS * poll` milliseconds of delay, and nothing else reaches the bus. -/
def Obligations.WaitIdleIsBounded : Prop :=
  ∀ (s t : State) (poll : Option Nat), exec (.waitIdle poll) s = .next t →
    ∃ more, t.trace = s.trace ++ more ∧
      (more.filter fun e => e = .readBusy .l0 ∨ e = .readBusy .l1).length ≤ busyMaxPolls s.cfg ∧
      (more.map fun e => match e with | .delay n => n | _ => 0).sum ≤ busyMaxPolls s.cfg * poll.getD 20 ∧
      ∀ e ∈ more, e = .readBusy .l0 ∨ e = .readBusy .l1 ∨ e = .delay (poll.getD 20)

/-- R132: SEND_CMD sends any byte as one command transfer and stays Ready; when the transfer fails the events are
`W(DC,0) W(CS,0) XF([op])`, the answer BusTransactionError, and CS is left selected. -/
def Obligations.SendCmdIsOneCommandTransfer : Prop :=
  ∀ (s : State) (op : Byte), s.st = .ready →
    (transfersSucceed 1 s →
      exec (.sendCmd op) s = .next { sent 1 .l0 (evTransfer .l0 [op]) s with answer := okAnswer }) ∧
    (transferFailsAfter 0 s → exec (.sendCmd op) s = .next (sendFailed 0 .l0 [op] [] s))

/-- R134: SEND_DATA sends any byte as one data transfer and stays Ready; or BusTransactionError. -/
def Obligations.SendDataIsOneDataTransfer : Prop :=
  ∀ (s : State) (b : Byte), s.st = .ready →
    (transfersSucceed 1 s →
      exec (.sendData b) s = .next { sent 1 .l1 (evTransfer .l1 [b]) s with answer := okAnswer }) ∧
    (transferFailsAfter 0 s → exec (.sendData b) s = .next (sendFailed 0 .l1 [b] [] s))

/-- R136: SEND_BULK sends a whole sequence of any length, the empty one too, as one data transfer; or
BusTransactionError. -/
def Obligations.SendBulkIsOneDataTransfer : Prop :=
  ∀ (s : State) (bs : List Byte), s.st = .ready →
    (transfersSucceed 1 s →
      exec (.sendBulk bs) s = .next { sent 1 .l1 (evTransfer .l1 bs) s with answer := okAnswer }) ∧
    (transferFailsAfter 0 s → exec (.sendBulk bs) s = .next (sendFailed 0 .l1 bs [] s))

/-! ### Register operations -/

/-- R180: SET_WINDOW sends the X window and then the Y window, ten transfers, whatever the coordinates; a failing transfer
aborts it with the ones before it sent. -/
def Obligations.SetWindowSendsTwoCommands : Prop :=
  ∀ (s : State) (x0 : BitVec 10) (y0 : BitVec 16) (x1 : BitVec 10) (y1 : BitVec 16), s.st = .ready →
    (transfersSucceed 10 s → exec (.setWindow x0 y0 x1 y1) s = .next
      { sent 10 .l1 (evCommands [listXWindow x0.toNat x1.toNat, listYWindow y0.toNat y1.toNat]) s with
        answer := okAnswer }) ∧
    abortsAtFailure (.setWindow x0 y0 x1 y1) [listXWindow x0.toNat x1.toNat, listYWindow y0.toNat y1.toNat] s

/-- R182: SET_CURSOR sends the X counter and then the Y counter, six transfers; a failing transfer aborts it. -/
def Obligations.SetCursorSendsTwoCommands : Prop :=
  ∀ (s : State) (x : BitVec 10) (y : BitVec 16), s.st = .ready →
    (transfersSucceed 6 s → exec (.setCursor x y) s = .next
      { sent 6 .l1 (evCommands [listXCounter x.toNat, listYCounter y.toNat]) s with answer := okAnswer }) ∧
    abortsAtFailure (.setCursor x y) [listXCounter x.toNat, listYCounter y.toNat] s

/-- R184, R185: LOAD_LUT sends the 110 bytes over four commands, 114 transfers, and sets S.lutLoaded after the last one and
only then; asked with the flag set it is Refused with no bus event. -/
def Obligations.LoadLutSendsTheTableOnce : Prop :=
  ∀ s : State, s.st = .ready →
    (s.lutLoaded = false → transfersSucceed 114 s → exec .loadLut s = .next
      { sent 114 .l1 (evCommands (listLut s.cfg)) s with lutLoaded := true, answer := okAnswer }) ∧
    (s.lutLoaded = false → abortsAtFailure .loadLut (listLut s.cfg) s) ∧
    (s.lutLoaded = true → exec .loadLut s = .next { s with answer := some .refused })

/-- R186: TRIGGER.m sends the activation byte of its operand and the master activation, then waits; a failing transfer or
a wait that runs out is answered with its error and `S.st` is Ready again, also when the activation has gone out. -/
def Obligations.TriggerActivatesAndWaits : Prop :=
  ∀ (s : State) (i : Instr) (m : Mode), (i, m) ∈ [(Instr.triggerFull, Mode.full), (.triggerFast, .fast),
      (.triggerPartial, .part), (.triggerGrayscale, .grayscale)] → s.st = .ready →
    (∀ n, transfersSucceed 3 s → waitsMeetIdle [n] s → exec i s = .next
      { sent 3 .l0 (evCommands (listTrigger m) ++ evWait 20 n) s with
        busy := oracleSkip (n + 1) s.busy, answer := okAnswer }) ∧
    abortsAtFailure i (listTrigger m) s ∧
    (transfersSucceed 3 s → waitTimesOut s → exec i s = .next
      { sent 3 .l0 (evCommands (listTrigger m) ++ evTimeout 20 (busyMaxPolls s.cfg - 1)) s with
        busy := oracleSkip (busyMaxPolls s.cfg) s.busy
        answer := some (.error (.deviceNotResponding (busyMaxPolls s.cfg))) })

/-- R188: SLEEP sends `C(10) D(01)`, waits the sleep delay, releases the bus (latches `U`) and ends the session: bus not
held, table not loaded, no mode, Sleeping. A failing transfer leaves all of that undone. -/
def Obligations.SleepEndsTheSession : Prop :=
  ∀ s : State, s.st = .ready →
    (transfersSucceed 2 s → exec .sleep s = .next { s with
      st := .sleeping
      mode := none
      lutLoaded := false
      busHeld := false
      pinRst := none
      pinDc := none
      pinCs := none
      trace := s.trace ++ evCommand ⟨0x10, [0x01]⟩ ++ [.delay s.cfg.sleepDelayMs, .modExit]
      spi := oracleSkip 2 s.spi
      answer := okAnswer }) ∧
    abortsAtFailure .sleep [⟨0x10, [0x01]⟩] s

/-! ### Initialisation -/

/-- R201: INIT.Full from any visible state, its three waits meeting idle after any numbers of busy samples within the bound
and its 33 transfers succeeding: exactly the events of the listing, mode Full, Ready. -/
def Obligations.InitFullRunsItsSequence : Prop :=
  ∀ (s : State) (ns : List Nat), s.st ∈ [St.uninitialized, .awaitingBusyClear, .ready, .sleeping] → busTakes s →
    ns.length = 3 → waitsMeetIdle ns s → transfersSucceed 33 s → exec .initFull s = .next (afterInit .full ns s)

/-- R203: INIT.Fast: the sequence of INIT.Full, then `C 22 D 91`, `C 20` and a wait; four waits, 36 transfers. -/
def Obligations.InitFastRunsItsSequence : Prop :=
  ∀ (s : State) (ns : List Nat), s.st ∈ [St.uninitialized, .awaitingBusyClear, .ready, .sleeping] → busTakes s →
    ns.length = 4 → waitsMeetIdle ns s → transfersSucceed 36 s → exec .initFast s = .next (afterInit .fast ns s)

/-- R204: INIT.Partial: no 0x12, border byte 0x80; two waits, 32 transfers. -/
def Obligations.InitPartialRunsItsSequence : Prop :=
  ∀ (s : State) (ns : List Nat), s.st ∈ [St.uninitialized, .awaitingBusyClear, .ready, .sleeping] → busTakes s →
    ns.length = 2 → waitsMeetIdle ns s → transfersSucceed 32 s → exec .initPartial s = .next (afterInit .part ns s)

/-- R205: INIT.Grayscale: the sequence of INIT.Fast; the first time in a session then the table and a wait (five waits, 150
transfers), later not (four waits, 36 transfers); S.lutLoaded is 1 after it. -/
def Obligations.InitGrayscaleLoadsTheTableOnce : Prop :=
  ∀ (s : State) (ns : List Nat), s.st ∈ [St.uninitialized, .awaitingBusyClear, .ready, .sleeping] → busTakes s →
    waitsMeetIdle ns s →
    (s.lutLoaded = false → ns.length = 5 → transfersSucceed 150 s →
      exec .initGrayscale s = .next (afterInit .grayscale ns s)) ∧
    (s.lutLoaded = true → ns.length = 4 → transfersSucceed 36 s →
      exec .initGrayscale s = .next (afterInit .grayscale ns s))

/-- The wire items of R201, R203, R204 and R205: whenever an INIT answers OK, whatever ENV did in its waits, the items it
put on the wire are those of the listing, in order. -/
def Obligations.InitPutsTheListingOnTheWire : Prop :=
  ∀ (s t : State) (i : Instr) (m : Mode), (i, m) ∈ [(Instr.initFull, Mode.full), (.initFast, .fast),
      (.initPartial, .part), (.initGrayscale, .grayscale)] →
    exec i s = .next t → t.answer = okAnswer →
    t.st = .ready ∧ t.mode = some m ∧ ∃ more, t.trace = s.trace ++ more ∧
      wire more = (listInit s.cfg m s.lutLoaded).flatMap wireItems

/-- R207: the counts of every INIT that answers OK, whatever its waits met: commands, data bytes, transfers, one reset
pulse, and one busy wait ended for each idle sample; when every wait meets idle at once, the pulse makes 6 events, each wait
2 and each transfer 4, beside the one event of an acquisition. -/
def Obligations.InitCounts : Prop :=
  ∀ (s t : State) (i : Instr) (m : Mode) (more : List Event), (i, m) ∈ [(Instr.initFull, Mode.full), (.initFast, .fast),
      (.initPartial, .part), (.initGrayscale, .grayscale)] →
    exec i s = .next t → t.answer = okAnswer → t.trace = s.trace ++ more →
    ((wire more).filter isCommandItem).length = initCommands m s.lutLoaded ∧
    ((wire more).filter fun w => !isCommandItem w).length = initDataBytes m s.lutLoaded ∧
    (more.filter Event.isXfer).length = initTransfers m s.lutLoaded ∧
    (more.filter fun e => e = .write .rst .l0).length = 1 ∧
    (more.filter fun e => e = .readBusy .l0).length = initWaits m s.lutLoaded ∧
    (Event.readBusy .l1 ∉ more → more.length = (if s.busHeld then 0 else 1) + 6 + 2 * initWaits m s.lutLoaded +
      4 * initTransfers m s.lutLoaded)

/-! ### The refresh policy -/

/-- R221, R223, R224: REFRESH.m with its operands accepted and ENV co-operating runs in mode Partial iff that is preferred
and the count is below the limit, else in its content type; it initialises, sends the frame (both planes for grayscale),
triggers, and then counts: Full resets the count, Partial increments it, Fast and Grayscale leave it. -/
def Obligations.RefreshRunsTheChosenMode : Prop :=
  ∀ (s : State) (buf : List Byte) (pp : Bool) (ns : List Nat) (i : Instr) (m : Mode),
    (i, m) ∈ [(Instr.refreshFull buf pp, Mode.full), (.refreshFast buf pp, .fast),
      (.refreshGrayscale buf pp, .grayscale)] →
    s.st ∈ [St.uninitialized, .awaitingBusyClear, .ready, .sleeping] → operandsAccepted i s →
    refreshEnv (actualMode m pp s) ns s → exec i s = .next (afterRefresh (actualMode m pp s) buf ns s)

/-- R222: a REFRESH with a buffer of the wrong length, or with partial preference for grayscale, is Refused with no bus
event and no change of state. -/
def Obligations.RefreshRefusesWrongOperands : Prop :=
  ∀ (s : State) (buf : List Byte) (pp : Bool),
    (buf.length ≠ width s.cfg / 8 * height s.cfg →
      exec (.refreshFull buf pp) s = .next { s with answer := some .refused } ∧
      exec (.refreshFast buf pp) s = .next { s with answer := some .refused }) ∧
    (buf.length ≠ width s.cfg / 4 * height s.cfg ∨ pp = true →
      exec (.refreshGrayscale buf pp) s = .next { s with answer := some .refused })

/-- R90: REFRESH.m is INIT, the frame transfers and TRIGGER. When INIT of the chosen mode, SEND_CMD and SEND_BULK of the
frame and TRIGGER, asked one after the other, all answer OK, REFRESH asked at the start ends in the same state, the count
and the orchestrator's mode written beside. Stated for the monochrome modes. -/
def Obligations.RefreshIsInitFrameTrigger : Prop :=
  ∀ (s a b c d : State) (buf : List Byte) (pp : Bool) (i init trig : Instr) (m actual : Mode),
    (i, m) ∈ [(Instr.refreshFull buf pp, Mode.full), (.refreshFast buf pp, .fast)] → operandsAccepted i s →
    actual = actualMode m pp s →
    (init, trig, actual) ∈ [(Instr.initFull, Instr.triggerFull, Mode.full), (.initFast, .triggerFast, .fast),
      (.initPartial, .triggerPartial, .part)] →
    exec init s = .next a → a.answer = okAnswer →
    exec (.sendCmd 0x24) a = .next b → b.answer = okAnswer →
    exec (.sendBulk buf) b = .next c → c.answer = okAnswer →
    exec trig c = .next d → d.answer = okAnswer →
    exec i s = .next { d with prc := countAfter actual d.prc, orchMode := some actual }

/-- R226: FP_COMPUTE answers the digest of the raster, of any shape, and changes nothing else. -/
def Obligations.FpComputeAnswersTheDigest : Prop :=
  ∀ (s : State) (img : Raster),
    exec (.fpCompute img) s = .next { s with answer := some (.ok (.digest (Config.fingerprint img))) }

/-- R227: SHOULD_UPDATE answers 1 if forced, if nothing is stored, or if the digest differs from the stored one, else 0;
asking does not store. -/
def Obligations.ShouldUpdateCompares : Prop :=
  ∀ (s : State) (fp : Digest) (force : Bool),
    exec (.shouldUpdate fp force) s =
      .next { s with answer := some (.ok (.bit (decide (force = true ∨ s.fpValid = false ∨ fp ≠ s.fp)))) }

/-- R229, R230: UPDATE.m. Grayscale with partial preference is Refused; an invalid shape is answered with its error before
anything else; an unchanged image that is not forced is skipped with `transmitted = 0` and no change at all; otherwise the
encoded image is refreshed, and when that succeeds the digest is stored and `transmitted = 1`. -/
def Obligations.UpdateRefreshesAndStores : Prop :=
  ∀ (s : State) (img : Raster) (pp force : Bool) (i enc : Instr) (m : Mode),
    (i, enc, m) ∈ [(Instr.updateFull img pp force, Instr.encMono img, Mode.full),
      (.updateFast img pp force, .encMono img, .fast), (.updateGrayscale img pp force, .encGray img, .grayscale)] →
    s.st ∈ [St.uninitialized, .awaitingBusyClear, .ready, .sleeping] →
    (m = .grayscale ∧ pp = true → exec i s = .next { s with answer := some .refused }) ∧
    (¬ (m = .grayscale ∧ pp = true) → ¬ shapeFits s.cfg img →
      exec i s = .next { s with answer := some (.error (.unsupportedImageDimensions img.iw img.ih)) }) ∧
    (¬ (m = .grayscale ∧ pp = true) → shapeFits s.cfg img → force = false → s.fpValid = true →
      s.fp = Config.fingerprint img →
      exec i s = .next { s with answer := some (.ok (.transmitted false)) }) ∧
    (¬ (m = .grayscale ∧ pp = true) → shapeFits s.cfg img →
      (force = true ∨ s.fpValid = false ∨ s.fp ≠ Config.fingerprint img) →
      ∀ ns : List Nat, refreshEnv (actualMode m pp s) ns s →
        ∃ buf : List Byte, exec enc s = .next { s with answer := some (.ok (.bytes buf)) } ∧
          exec i s = .next { afterRefresh (actualMode m pp s) buf ns s with
            fp := Config.fingerprint img
            fpValid := true
            answer := some (.ok (.transmitted true)) })

/-- R90, R229: UPDATE.m of an image to be transmitted is the encoder, REFRESH.m and the store: when REFRESH of the encoded
image answers OK, UPDATE ends in the same state with the digest stored; when it answers an error, UPDATE ends in that very
state. -/
def Obligations.UpdateIsEncodeRefreshStore : Prop :=
  ∀ (s t : State) (img : Raster) (pp force : Bool) (buf : List Byte) (i enc refresh : Instr),
    (i, enc, refresh) ∈ [(Instr.updateFull img pp force, Instr.encMono img, Instr.refreshFull buf pp),
      (.updateFast img pp force, .encMono img, .refreshFast buf pp),
      (.updateGrayscale img pp force, .encGray img, .refreshGrayscale buf pp)] →
    (force = true ∨ s.fpValid = false ∨ s.fp ≠ Config.fingerprint img) →
    exec enc s = .next { s with answer := some (.ok (.bytes buf)) } → exec refresh s = .next t →
    (t.answer = okAnswer → exec i s = .next { t with
      fp := Config.fingerprint img
      fpValid := true
      answer := some (.ok (.transmitted true)) }) ∧
    (∀ e, t.answer = some (.error e) → exec i s = .next t)

/-- R231 (a): after an UPDATE that transmitted an image, an UPDATE of the same image without force answers
`transmitted = 0` and changes nothing else, whatever the content types are. -/
def Obligations.SecondUpdateIsSkipped : Prop :=
  ∀ (s t : State) (img : Raster) (pp pp' force : Bool) (i j : Instr),
    i ∈ [Instr.updateFull img pp force, .updateFast img pp force, .updateGrayscale img pp force] →
    j ∈ [Instr.updateFull img pp' false, .updateFast img pp' false, .updateGrayscale img pp' false] →
    operandsAccepted j t → exec i s = .next t → t.answer = some (.ok (.transmitted true)) →
    exec j t = .next { t with answer := some (.ok (.transmitted false)) }

/-- R231 (b): from a count of 0, `L = PARTIAL_LIMIT` successful calls of REFRESH.Full(buf, 1) run in mode Partial and leave
the count at `L`; the next one runs in mode Full and leaves it at 0. -/
def Obligations.PartialRefreshBound : Prop :=
  ∀ (s t : State) (buf : List Byte) (k : Nat), s.prc = 0 →
    (0 < k → k ≤ s.cfg.partialLimit.toNat → refreshChain buf k s t →
      t.prc.toNat = k ∧ t.mode = some .part ∧ t.orchMode = some .part) ∧
    (k = s.cfg.partialLimit.toNat + 1 → refreshChain buf k s t →
      t.prc = 0 ∧ t.mode = some .full ∧ t.orchMode = some .full)

/-- R231 (c): an UPDATE that answers an error leaves the stored fingerprint as it was, so the same image asked again is
still to be updated if it was before. -/
def Obligations.FailedUpdateIsRetried : Prop :=
  ∀ (s t : State) (img : Raster) (pp force : Bool) (e : Raise) (i : Instr),
    i ∈ [Instr.updateFull img pp force, .updateFast img pp force, .updateGrayscale img pp force] →
    exec i s = .next t → t.answer = some (.error e) →
    t.fp = s.fp ∧ t.fpValid = s.fpValid ∧
    ((s.fpValid = false ∨ s.fp ≠ Config.fingerprint img) →
      exec (.shouldUpdate (Config.fingerprint img) false) t = .next { t with answer := some (.ok (.bit true)) })

/-! ### Result classes and the abort -/

/-- R24: an operation presented in a state that is not one of its entry states is Refused and changes nothing; in an entry
state, with its operands accepted, it runs; on success `S.st` is the end state of its row, on a raise what it was at
entry. -/
def Obligations.EntryAndEndStates : Prop :=
  ∀ (i : Instr) (s : State), isHostOp i = true →
    (s.st ∉ allowedEntry i → exec i s = .next { s with answer := some .refused }) ∧
    (s.st ∈ allowedEntry i → operandsAccepted i s → ∃ t a, exec i s = .next t ∧ t.answer = some a ∧ a ≠ .refused) ∧
    (∀ t v, exec i s = .next t → t.answer = some (.ok v) → s.st ∈ allowedEntry i ∧ t.st = endSt i v s.st) ∧
    (∀ t e, exec i s = .next t → t.answer = some (.error e) → s.st ∈ allowedEntry i ∧ t.st = s.st)

/-- R255 (b) to (e): a host operation is answered Refused exactly when the entry state or an operand precondition fails,
and then nothing but the answer has changed. (a) is IllFormedOpByteIsRefused. -/
def Obligations.RefusedExactlyWhen : Prop :=
  ∀ (i : Instr) (s t : State), isHostOp i = true → exec i s = .next t →
    (t.answer = some .refused ↔ s.st ∉ allowedEntry i ∨ ¬ operandsAccepted i s) ∧
    (t.answer = some .refused → t = { s with answer := some .refused })

/-- R256: which host operation can answer with which result class, in a visible state. -/
def Obligations.ClassesOfEachOperation : Prop :=
  ∀ (i : Instr) (s t : State) (a : Answer), isHostOp i = true →
    s.st ∈ [St.uninitialized, .awaitingBusyClear, .ready, .sleeping] → exec i s = .next t → t.answer = some a →
    canAnswer i (classCode a) = true

/-- R257, R225: after an abort `S.st`, `S.prc`, `S.orchMode`, `S.fp` and `S.fpValid` are the entry values. Nothing else is
undone: `S.busHeld` is what the operation's own ModInit made it; `S.lutLoaded` is set iff it was at entry or the table went
out in this operation; `S.mode` is the entry value, but the mode a REFRESH or UPDATE ran in once its INIT had succeeded; each
latch is at the level last written. The trace keeps every event, the failing one last: `MI(s)`, `R(BUSY,1)`, or
`W(DC,l) W(CS,0) XF(bs)` (R251 to R253), none for an image of the wrong shape. -/
def Obligations.AbortRestoresOnlyTheState : Prop :=
  ∀ (i : Instr) (s t : State) (e : Raise), exec i s = .next t → t.answer = some (.error e) →
    ∃ more : List Event, t.trace = s.trace ++ more ∧
      t.st = s.st ∧ t.prc = s.prc ∧ t.orchMode = s.orchMode ∧ t.fp = s.fp ∧ t.fpValid = s.fpValid ∧
      t.busHeld = heldFrom s.busHeld more ∧
      (t.lutLoaded = true ↔ s.lutLoaded = true ∨ tableSent s.cfg more) ∧
      (askedMode i = none → t.mode = s.mode) ∧
      (∀ m pp, askedMode i = some (m, pp) →
        (frameReached e more → t.mode = some (actualMode m pp s)) ∧ (¬ frameReached e more → t.mode = s.mode)) ∧
      t.pinRst = latchFrom .rst s.pinRst more ∧ t.pinDc = latchFrom .dc s.pinDc more ∧
      t.pinCs = latchFrom .cs s.pinCs more ∧
      (match e with
        | .hardwareInit n => n ≠ 0 ∧ more = [.modInit n] ∧ t.busHeld = false
        | .deviceNotResponding n => n = busyMaxPolls s.cfg ∧ ∃ evs, more = evs ++ [.readBusy .l1]
        | .busTransaction l bs => t.pinCs = some .l0 ∧ t.pinDc = some l ∧ ∃ evs, more = evs ++ evFailed l bs
        | .unsupportedImageDimensions _ _ => more = [])

/-- R251: RESET, the four INIT, REFRESH and UPDATE with the bus not held and ModInit returning another status than
MODINIT_OK (and, for REFRESH and UPDATE, the request accepted and something to transmit) answer HardwareInitError with that
status before any pin event: the trace gains `MI(s)` and nothing else, the latches are `U`, every register is as it was. No
other operation returns it, and it cannot occur when the bus is held. -/
def Obligations.HardwareInitErrorComesFirst : Prop :=
  (∀ (i : Instr) (s : State), ¬ busTakes s → s.st ∈ [St.uninitialized, .awaitingBusyClear, .ready, .sleeping] →
    operandsAccepted i s →
    (i ∈ [Instr.reset, .initFull, .initFast, .initPartial, .initGrayscale] ∨
      (∃ buf pp, i ∈ [Instr.refreshFull buf pp, .refreshFast buf pp, .refreshGrayscale buf pp]) ∨
      (∃ img pp force, i ∈ [Instr.updateFull img pp force, .updateFast img pp force, .updateGrayscale img pp force] ∧
        shapeFits s.cfg img ∧ (force = true ∨ s.fpValid = false ∨ s.fp ≠ Config.fingerprint img))) →
    exec i s = .next { s with
      trace := s.trace ++ [.modInit (modInitStatus s)]
      pinRst := none
      pinDc := none
      pinCs := none
      modInit := oracleAdvance s.modInit
      answer := some (.error (.hardwareInit (modInitStatus s))) }) ∧
  (∀ (i : Instr) (s t : State) (n : Nat), exec i s = .next t → t.answer = some (.error (.hardwareInit n)) →
    setsBus i = true ∧ s.busHeld = false ∧ n ≠ 0)

/-! ### Wire commands -/

/-- The byte-exact wire table (S8): each of the seventeen commands that are sent byte by byte puts its opcode as a command
item and its payload as data items on the bus, one transfer each, and moves no register of the core; a failing transfer
aborts it. That a wire command is asked for on its own, in Ready, is the model's choice (log entry 8). -/
def Obligations.WireCommandsSendTheTable : Prop :=
  ∀ (i : Instr) (s : State) (w : WireCommand), wireTable s.cfg i = some w → s.st = .ready →
    (transfersSucceed (w.payload.length + 1) s → exec i s = .next
      { sent (w.payload.length + 1) (if w.payload = [] then .l0 else .l1) (evCommand w) s with answer := okAnswer }) ∧
    abortsAtFailure i [w] s

/-- The two frame commands put their opcode and then the whole buffer of MONO_LEN bytes on the bus, two transfers (R223); a
payload of another length is not this command and is Refused (the model's choice, log entry 9). -/
def Obligations.FrameCommandsSendTheBuffer : Prop :=
  ∀ (s : State) (bs : List Byte) (i : Instr) (op : Byte),
    (i, op) ∈ [(Instr.wireWriteBwRamPlane1 bs, (0x24 : Byte)), (.wireWriteBwRamPlane2 bs, 0x26)] → s.st = .ready →
    (bs.length = width s.cfg / 8 * height s.cfg → transfersSucceed 2 s →
      exec i s = .next { sent 2 .l1 (evFrame op bs) s with answer := okAnswer }) ∧
    (bs.length = width s.cfg / 8 * height s.cfg → transferFailsAfter 0 s →
      exec i s = .next (sendFailed 0 .l0 [op] [] s)) ∧
    (bs.length = width s.cfg / 8 * height s.cfg → transferFailsAfter 1 s →
      exec i s = .next (sendFailed 1 .l1 bs (evTransfer .l0 [op]) s)) ∧
    (bs.length ≠ width s.cfg / 8 * height s.cfg → exec i s = .next { s with answer := some .refused })

/-- R90: SET_WINDOW and SET_CURSOR are each two wire commands: when the first, asked on its own, answers OK, the operation
ends in the very state the second ends in, also when the second fails. That a wire command is asked for on its own, in Ready,
and is answered OK is the model's choice (log entry 8). -/
def Obligations.WindowAndCursorAreTwoWireCommands : Prop :=
  ∀ (s t u : State) (first second both : Instr),
    ((∃ x0 y0 x1 y1, first = .wireSetRamXWindow x0 x1 ∧ second = .wireSetRamYWindow y0 y1 ∧
        both = .setWindow x0 y0 x1 y1) ∨
      (∃ x y, first = .wireSetRamXAddrCounter x ∧ second = .wireSetRamYAddrCounter y ∧ both = .setCursor x y)) →
    exec first s = .next t → t.answer = okAnswer → exec second t = .next u → exec both s = .next u

/-! ### The bit-packer as the source words it -/

/-- R105, R102: "The source's own formulation starts from a buffer of `MONO_BG = 0xFF` bytes and clears bit
`7 - (newX % 8)` of byte `(newX + newY * W) / 8` for each black pixel; the two give the same bytes". -/
def Obligations.EncMonoClearsTheBackground : Prop :=
  ∀ (img : Raster) (o : Orientation) (s : State), orientation s.cfg img = some o →
    exec (.encMono img) s = .next { s with answer := some (.ok (.bytes (encodeMonoByClearing s.cfg o img))) }
end

