-- ==== Sys2Proof/Laws/Codec.lean ====
section
/-! SUPPORT. What the wire decoder answers, and what clearing a pixel does to a monochrome buffer (30_encoding.md R80,
40_codec.md R105). -/

namespace Sys2Proof

/-- An opcode decodes to an instruction only by a row of the opcode map. -/
theorem decodeWire_row {opcode : Byte} {a : Args} {i : Instr} (h : decodeWire opcode a = .instr i) :
    (opcode, i) ∈ wireRows a := by
  unfold decodeWire at h
  split at h
  · rename_i j hj
    cases h
    obtain ⟨l₁, l₂, hl, -⟩ := List.lookup_eq_some_iff.1 hj
    simp [hl]
  · cases h

end Sys2Proof

namespace Sys2Proof.Machine

@[simp] theorem clearPixel_length (c : Config) (pos : Nat × Nat) (bs : List Byte) :
    (clearPixel c pos bs).length = bs.length := by
  simp [clearPixel]

@[simp] theorem clearBlackPixels_length (c : Config) (o : Orientation) (img : Raster) (n : Nat) :
    (clearBlackPixels c o img n).length = monoLen c := by
  induction n with
  | zero => simp [clearBlackPixels]
  | succ n ih => simp only [clearBlackPixels]; split <;> simp [ih]

/-- The mask of R105 has every bit set but `7 - m`. -/
theorem clearMask_bit (m r : Fin 8) : (~~~((0x80 : Byte) >>> m.val)).getLsbD r.val = decide (r.val ≠ 7 - m.val) := by
  decide +revert

/-- Clearing a pixel clears bit `7 - px % 8` of byte `(px + py * W) / 8` and no other bit (R105). -/
theorem clearPixel_bit (c : Config) (pos : Nat × Nat) (bs : List Byte) (q r : Nat) (hr : r < 8) :
    ((clearPixel c pos bs).getD q 0).getLsbD r =
      ((bs.getD q 0).getLsbD r && !decide ((pos.1 + pos.2 * width c) / 8 = q ∧ r = 7 - pos.1 % 8)) := by
  have hm := clearMask_bit ⟨pos.1 % 8, Nat.mod_lt _ (by decide)⟩ ⟨r, hr⟩
  simp only at hm
  simp only [clearPixel, List.getD_eq_getElem?_getD, List.getElem?_modify]
  by_cases h : (pos.1 + pos.2 * width c) / 8 = q
  · rcases hq : bs[q]? with _ | b
    · simp [h]
    · simp only [h, if_true, Option.map_eq_map, Option.map_some, Option.getD_some, BitVec.getLsbD_and, hm, true_and]
      simp
  · simp [h]

end Sys2Proof.Machine
end

