-- ==== Sys2Proof/Laws/State.lean ====
section
/-! SUPPORT. One lemma per field per update of `State`, so that no later proof unfolds a record update. -/

namespace Sys2Proof.Machine

/-! ### emit -/

@[simp] theorem emit_cfg (e : Event) (s : State) : (emit e s).cfg = s.cfg := rfl
@[simp] theorem emit_st (e : Event) (s : State) : (emit e s).st = s.st := rfl
@[simp] theorem emit_mode (e : Event) (s : State) : (emit e s).mode = s.mode := rfl
@[simp] theorem emit_lutLoaded (e : Event) (s : State) : (emit e s).lutLoaded = s.lutLoaded := rfl
@[simp] theorem emit_busHeld (e : Event) (s : State) : (emit e s).busHeld = s.busHeld := rfl
@[simp] theorem emit_prc (e : Event) (s : State) : (emit e s).prc = s.prc := rfl
@[simp] theorem emit_orchMode (e : Event) (s : State) : (emit e s).orchMode = s.orchMode := rfl
@[simp] theorem emit_fpValid (e : Event) (s : State) : (emit e s).fpValid = s.fpValid := rfl
@[simp] theorem emit_fp (e : Event) (s : State) : (emit e s).fp = s.fp := rfl
@[simp] theorem emit_pinRst (e : Event) (s : State) : (emit e s).pinRst = s.pinRst := rfl
@[simp] theorem emit_pinDc (e : Event) (s : State) : (emit e s).pinDc = s.pinDc := rfl
@[simp] theorem emit_pinCs (e : Event) (s : State) : (emit e s).pinCs = s.pinCs := rfl
@[simp] theorem emit_trace (e : Event) (s : State) : (emit e s).trace = s.trace ++ [e] := rfl
@[simp] theorem emit_answer (e : Event) (s : State) : (emit e s).answer = s.answer := rfl
@[simp] theorem emit_inbox (e : Event) (s : State) : (emit e s).inbox = s.inbox := rfl
@[simp] theorem emit_busy (e : Event) (s : State) : (emit e s).busy = s.busy := rfl
@[simp] theorem emit_spi (e : Event) (s : State) : (emit e s).spi = s.spi := rfl
@[simp] theorem emit_modInit (e : Event) (s : State) : (emit e s).modInit = s.modInit := rfl

/-! ### clearLatches -/

@[simp] theorem clearLatches_cfg (s : State) : (clearLatches s).cfg = s.cfg := rfl
@[simp] theorem clearLatches_st (s : State) : (clearLatches s).st = s.st := rfl
@[simp] theorem clearLatches_mode (s : State) : (clearLatches s).mode = s.mode := rfl
@[simp] theorem clearLatches_lutLoaded (s : State) : (clearLatches s).lutLoaded = s.lutLoaded := rfl
@[simp] theorem clearLatches_busHeld (s : State) : (clearLatches s).busHeld = s.busHeld := rfl
@[simp] theorem clearLatches_prc (s : State) : (clearLatches s).prc = s.prc := rfl
@[simp] theorem clearLatches_orchMode (s : State) : (clearLatches s).orchMode = s.orchMode := rfl
@[simp] theorem clearLatches_fpValid (s : State) : (clearLatches s).fpValid = s.fpValid := rfl
@[simp] theorem clearLatches_fp (s : State) : (clearLatches s).fp = s.fp := rfl
@[simp] theorem clearLatches_pinRst (s : State) : (clearLatches s).pinRst = none := rfl
@[simp] theorem clearLatches_pinDc (s : State) : (clearLatches s).pinDc = none := rfl
@[simp] theorem clearLatches_pinCs (s : State) : (clearLatches s).pinCs = none := rfl
@[simp] theorem clearLatches_trace (s : State) : (clearLatches s).trace = s.trace := rfl
@[simp] theorem clearLatches_answer (s : State) : (clearLatches s).answer = s.answer := rfl
@[simp] theorem clearLatches_inbox (s : State) : (clearLatches s).inbox = s.inbox := rfl
@[simp] theorem clearLatches_busy (s : State) : (clearLatches s).busy = s.busy := rfl
@[simp] theorem clearLatches_spi (s : State) : (clearLatches s).spi = s.spi := rfl
@[simp] theorem clearLatches_modInit (s : State) : (clearLatches s).modInit = s.modInit := rfl

/-! ### pinWrite -/

@[simp] theorem pinWrite_cfg (p : OutPin) (l : Level) (s : State) : (pinWrite p l s).cfg = s.cfg := by cases p <;> rfl
@[simp] theorem pinWrite_st (p : OutPin) (l : Level) (s : State) : (pinWrite p l s).st = s.st := by cases p <;> rfl
@[simp] theorem pinWrite_mode (p : OutPin) (l : Level) (s : State) : (pinWrite p l s).mode = s.mode := by cases p <;> rfl
@[simp] theorem pinWrite_lutLoaded (p : OutPin) (l : Level) (s : State) : (pinWrite p l s).lutLoaded = s.lutLoaded := by cases p <;> rfl
@[simp] theorem pinWrite_busHeld (p : OutPin) (l : Level) (s : State) : (pinWrite p l s).busHeld = s.busHeld := by cases p <;> rfl
@[simp] theorem pinWrite_prc (p : OutPin) (l : Level) (s : State) : (pinWrite p l s).prc = s.prc := by cases p <;> rfl
@[simp] theorem pinWrite_orchMode (p : OutPin) (l : Level) (s : State) : (pinWrite p l s).orchMode = s.orchMode := by cases p <;> rfl
@[simp] theorem pinWrite_fpValid (p : OutPin) (l : Level) (s : State) : (pinWrite p l s).fpValid = s.fpValid := by cases p <;> rfl
@[simp] theorem pinWrite_fp (p : OutPin) (l : Level) (s : State) : (pinWrite p l s).fp = s.fp := by cases p <;> rfl
@[simp] theorem pinWrite_pinRst (p : OutPin) (l : Level) (s : State) : (pinWrite p l s).pinRst = if p = .rst then some l else s.pinRst := by cases p <;> rfl
@[simp] theorem pinWrite_pinDc (p : OutPin) (l : Level) (s : State) : (pinWrite p l s).pinDc = if p = .dc then some l else s.pinDc := by cases p <;> rfl
@[simp] theorem pinWrite_pinCs (p : OutPin) (l : Level) (s : State) : (pinWrite p l s).pinCs = if p = .cs then some l else s.pinCs := by cases p <;> rfl
@[simp] theorem pinWrite_trace (p : OutPin) (l : Level) (s : State) : (pinWrite p l s).trace = s.trace ++ [.write p l] := by cases p <;> rfl
@[simp] theorem pinWrite_answer (p : OutPin) (l : Level) (s : State) : (pinWrite p l s).answer = s.answer := by cases p <;> rfl
@[simp] theorem pinWrite_inbox (p : OutPin) (l : Level) (s : State) : (pinWrite p l s).inbox = s.inbox := by cases p <;> rfl
@[simp] theorem pinWrite_busy (p : OutPin) (l : Level) (s : State) : (pinWrite p l s).busy = s.busy := by cases p <;> rfl
@[simp] theorem pinWrite_spi (p : OutPin) (l : Level) (s : State) : (pinWrite p l s).spi = s.spi := by cases p <;> rfl
@[simp] theorem pinWrite_modInit (p : OutPin) (l : Level) (s : State) : (pinWrite p l s).modInit = s.modInit := by cases p <;> rfl

/-! ### pinReadBusy -/

@[simp] theorem pinReadBusy_cfg (s : State) : (pinReadBusy s).cfg = s.cfg := rfl
@[simp] theorem pinReadBusy_st (s : State) : (pinReadBusy s).st = s.st := rfl
@[simp] theorem pinReadBusy_mode (s : State) : (pinReadBusy s).mode = s.mode := rfl
@[simp] theorem pinReadBusy_lutLoaded (s : State) : (pinReadBusy s).lutLoaded = s.lutLoaded := rfl
@[simp] theorem pinReadBusy_busHeld (s : State) : (pinReadBusy s).busHeld = s.busHeld := rfl
@[simp] theorem pinReadBusy_prc (s : State) : (pinReadBusy s).prc = s.prc := rfl
@[simp] theorem pinReadBusy_orchMode (s : State) : (pinReadBusy s).orchMode = s.orchMode := rfl
@[simp] theorem pinReadBusy_fpValid (s : State) : (pinReadBusy s).fpValid = s.fpValid := rfl
@[simp] theorem pinReadBusy_fp (s : State) : (pinReadBusy s).fp = s.fp := rfl
@[simp] theorem pinReadBusy_pinRst (s : State) : (pinReadBusy s).pinRst = s.pinRst := rfl
@[simp] theorem pinReadBusy_pinDc (s : State) : (pinReadBusy s).pinDc = s.pinDc := rfl
@[simp] theorem pinReadBusy_pinCs (s : State) : (pinReadBusy s).pinCs = s.pinCs := rfl
@[simp] theorem pinReadBusy_trace (s : State) : (pinReadBusy s).trace = s.trace ++ [.readBusy (busyLevel s)] := rfl
@[simp] theorem pinReadBusy_answer (s : State) : (pinReadBusy s).answer = s.answer := rfl
@[simp] theorem pinReadBusy_inbox (s : State) : (pinReadBusy s).inbox = s.inbox := rfl
@[simp] theorem pinReadBusy_busy (s : State) : (pinReadBusy s).busy = oracleAdvance s.busy := rfl
@[simp] theorem pinReadBusy_spi (s : State) : (pinReadBusy s).spi = s.spi := rfl
@[simp] theorem pinReadBusy_modInit (s : State) : (pinReadBusy s).modInit = s.modInit := rfl

/-! ### spiWrite -/

@[simp] theorem spiWrite_cfg (bs : List Byte) (s : State) : (spiWrite bs s).cfg = s.cfg := rfl
@[simp] theorem spiWrite_st (bs : List Byte) (s : State) : (spiWrite bs s).st = s.st := rfl
@[simp] theorem spiWrite_mode (bs : List Byte) (s : State) : (spiWrite bs s).mode = s.mode := rfl
@[simp] theorem spiWrite_lutLoaded (bs : List Byte) (s : State) : (spiWrite bs s).lutLoaded = s.lutLoaded := rfl
@[simp] theorem spiWrite_busHeld (bs : List Byte) (s : State) : (spiWrite bs s).busHeld = s.busHeld := rfl
@[simp] theorem spiWrite_prc (bs : List Byte) (s : State) : (spiWrite bs s).prc = s.prc := rfl
@[simp] theorem spiWrite_orchMode (bs : List Byte) (s : State) : (spiWrite bs s).orchMode = s.orchMode := rfl
@[simp] theorem spiWrite_fpValid (bs : List Byte) (s : State) : (spiWrite bs s).fpValid = s.fpValid := rfl
@[simp] theorem spiWrite_fp (bs : List Byte) (s : State) : (spiWrite bs s).fp = s.fp := rfl
@[simp] theorem spiWrite_pinRst (bs : List Byte) (s : State) : (spiWrite bs s).pinRst = s.pinRst := rfl
@[simp] theorem spiWrite_pinDc (bs : List Byte) (s : State) : (spiWrite bs s).pinDc = s.pinDc := rfl
@[simp] theorem spiWrite_pinCs (bs : List Byte) (s : State) : (spiWrite bs s).pinCs = s.pinCs := rfl
@[simp] theorem spiWrite_trace (bs : List Byte) (s : State) : (spiWrite bs s).trace = s.trace ++ [if spiSucceeds s then .xfer bs else .xferFail bs] := rfl
@[simp] theorem spiWrite_answer (bs : List Byte) (s : State) : (spiWrite bs s).answer = s.answer := rfl
@[simp] theorem spiWrite_inbox (bs : List Byte) (s : State) : (spiWrite bs s).inbox = s.inbox := rfl
@[simp] theorem spiWrite_busy (bs : List Byte) (s : State) : (spiWrite bs s).busy = s.busy := rfl
@[simp] theorem spiWrite_spi (bs : List Byte) (s : State) : (spiWrite bs s).spi = oracleAdvance s.spi := rfl
@[simp] theorem spiWrite_modInit (bs : List Byte) (s : State) : (spiWrite bs s).modInit = s.modInit := rfl

/-! ### delayMs -/

@[simp] theorem delayMs_cfg (n : Nat) (s : State) : (delayMs n s).cfg = s.cfg := rfl
@[simp] theorem delayMs_st (n : Nat) (s : State) : (delayMs n s).st = s.st := rfl
@[simp] theorem delayMs_mode (n : Nat) (s : State) : (delayMs n s).mode = s.mode := rfl
@[simp] theorem delayMs_lutLoaded (n : Nat) (s : State) : (delayMs n s).lutLoaded = s.lutLoaded := rfl
@[simp] theorem delayMs_busHeld (n : Nat) (s : State) : (delayMs n s).busHeld = s.busHeld := rfl
@[simp] theorem delayMs_prc (n : Nat) (s : State) : (delayMs n s).prc = s.prc := rfl
@[simp] theorem delayMs_orchMode (n : Nat) (s : State) : (delayMs n s).orchMode = s.orchMode := rfl
@[simp] theorem delayMs_fpValid (n : Nat) (s : State) : (delayMs n s).fpValid = s.fpValid := rfl
@[simp] theorem delayMs_fp (n : Nat) (s : State) : (delayMs n s).fp = s.fp := rfl
@[simp] theorem delayMs_pinRst (n : Nat) (s : State) : (delayMs n s).pinRst = s.pinRst := rfl
@[simp] theorem delayMs_pinDc (n : Nat) (s : State) : (delayMs n s).pinDc = s.pinDc := rfl
@[simp] theorem delayMs_pinCs (n : Nat) (s : State) : (delayMs n s).pinCs = s.pinCs := rfl
@[simp] theorem delayMs_trace (n : Nat) (s : State) : (delayMs n s).trace = s.trace ++ [.delay n] := rfl
@[simp] theorem delayMs_answer (n : Nat) (s : State) : (delayMs n s).answer = s.answer := rfl
@[simp] theorem delayMs_inbox (n : Nat) (s : State) : (delayMs n s).inbox = s.inbox := rfl
@[simp] theorem delayMs_busy (n : Nat) (s : State) : (delayMs n s).busy = s.busy := rfl
@[simp] theorem delayMs_spi (n : Nat) (s : State) : (delayMs n s).spi = s.spi := rfl
@[simp] theorem delayMs_modInit (n : Nat) (s : State) : (delayMs n s).modInit = s.modInit := rfl

/-! ### modInitCall -/

@[simp] theorem modInitCall_cfg (s : State) : (modInitCall s).cfg = s.cfg := rfl
@[simp] theorem modInitCall_st (s : State) : (modInitCall s).st = s.st := rfl
@[simp] theorem modInitCall_mode (s : State) : (modInitCall s).mode = s.mode := rfl
@[simp] theorem modInitCall_lutLoaded (s : State) : (modInitCall s).lutLoaded = s.lutLoaded := rfl
@[simp] theorem modInitCall_busHeld (s : State) : (modInitCall s).busHeld = s.busHeld := rfl
@[simp] theorem modInitCall_prc (s : State) : (modInitCall s).prc = s.prc := rfl
@[simp] theorem modInitCall_orchMode (s : State) : (modInitCall s).orchMode = s.orchMode := rfl
@[simp] theorem modInitCall_fpValid (s : State) : (modInitCall s).fpValid = s.fpValid := rfl
@[simp] theorem modInitCall_fp (s : State) : (modInitCall s).fp = s.fp := rfl
@[simp] theorem modInitCall_pinRst (s : State) : (modInitCall s).pinRst = none := rfl
@[simp] theorem modInitCall_pinDc (s : State) : (modInitCall s).pinDc = none := rfl
@[simp] theorem modInitCall_pinCs (s : State) : (modInitCall s).pinCs = none := rfl
@[simp] theorem modInitCall_trace (s : State) : (modInitCall s).trace = s.trace ++ [.modInit (modInitStatus s)] := rfl
@[simp] theorem modInitCall_answer (s : State) : (modInitCall s).answer = s.answer := rfl
@[simp] theorem modInitCall_inbox (s : State) : (modInitCall s).inbox = s.inbox := rfl
@[simp] theorem modInitCall_busy (s : State) : (modInitCall s).busy = s.busy := rfl
@[simp] theorem modInitCall_spi (s : State) : (modInitCall s).spi = s.spi := rfl
@[simp] theorem modInitCall_modInit (s : State) : (modInitCall s).modInit = oracleAdvance s.modInit := rfl

/-! ### modExitCall -/

@[simp] theorem modExitCall_cfg (s : State) : (modExitCall s).cfg = s.cfg := rfl
@[simp] theorem modExitCall_st (s : State) : (modExitCall s).st = s.st := rfl
@[simp] theorem modExitCall_mode (s : State) : (modExitCall s).mode = s.mode := rfl
@[simp] theorem modExitCall_lutLoaded (s : State) : (modExitCall s).lutLoaded = s.lutLoaded := rfl
@[simp] theorem modExitCall_busHeld (s : State) : (modExitCall s).busHeld = s.busHeld := rfl
@[simp] theorem modExitCall_prc (s : State) : (modExitCall s).prc = s.prc := rfl
@[simp] theorem modExitCall_orchMode (s : State) : (modExitCall s).orchMode = s.orchMode := rfl
@[simp] theorem modExitCall_fpValid (s : State) : (modExitCall s).fpValid = s.fpValid := rfl
@[simp] theorem modExitCall_fp (s : State) : (modExitCall s).fp = s.fp := rfl
@[simp] theorem modExitCall_pinRst (s : State) : (modExitCall s).pinRst = none := rfl
@[simp] theorem modExitCall_pinDc (s : State) : (modExitCall s).pinDc = none := rfl
@[simp] theorem modExitCall_pinCs (s : State) : (modExitCall s).pinCs = none := rfl
@[simp] theorem modExitCall_trace (s : State) : (modExitCall s).trace = s.trace ++ [.modExit] := rfl
@[simp] theorem modExitCall_answer (s : State) : (modExitCall s).answer = s.answer := rfl
@[simp] theorem modExitCall_inbox (s : State) : (modExitCall s).inbox = s.inbox := rfl
@[simp] theorem modExitCall_busy (s : State) : (modExitCall s).busy = s.busy := rfl
@[simp] theorem modExitCall_spi (s : State) : (modExitCall s).spi = s.spi := rfl
@[simp] theorem modExitCall_modInit (s : State) : (modExitCall s).modInit = s.modInit := rfl

/-! ### setSt -/

@[simp] theorem setSt_cfg (v : St) (s : State) : (setSt v s).cfg = s.cfg := rfl
@[simp] theorem setSt_st (v : St) (s : State) : (setSt v s).st = v := rfl
@[simp] theorem setSt_mode (v : St) (s : State) : (setSt v s).mode = s.mode := rfl
@[simp] theorem setSt_lutLoaded (v : St) (s : State) : (setSt v s).lutLoaded = s.lutLoaded := rfl
@[simp] theorem setSt_busHeld (v : St) (s : State) : (setSt v s).busHeld = s.busHeld := rfl
@[simp] theorem setSt_prc (v : St) (s : State) : (setSt v s).prc = s.prc := rfl
@[simp] theorem setSt_orchMode (v : St) (s : State) : (setSt v s).orchMode = s.orchMode := rfl
@[simp] theorem setSt_fpValid (v : St) (s : State) : (setSt v s).fpValid = s.fpValid := rfl
@[simp] theorem setSt_fp (v : St) (s : State) : (setSt v s).fp = s.fp := rfl
@[simp] theorem setSt_pinRst (v : St) (s : State) : (setSt v s).pinRst = s.pinRst := rfl
@[simp] theorem setSt_pinDc (v : St) (s : State) : (setSt v s).pinDc = s.pinDc := rfl
@[simp] theorem setSt_pinCs (v : St) (s : State) : (setSt v s).pinCs = s.pinCs := rfl
@[simp] theorem setSt_trace (v : St) (s : State) : (setSt v s).trace = s.trace := rfl
@[simp] theorem setSt_answer (v : St) (s : State) : (setSt v s).answer = s.answer := rfl
@[simp] theorem setSt_inbox (v : St) (s : State) : (setSt v s).inbox = s.inbox := rfl
@[simp] theorem setSt_busy (v : St) (s : State) : (setSt v s).busy = s.busy := rfl
@[simp] theorem setSt_spi (v : St) (s : State) : (setSt v s).spi = s.spi := rfl
@[simp] theorem setSt_modInit (v : St) (s : State) : (setSt v s).modInit = s.modInit := rfl

/-! ### setMode -/

@[simp] theorem setMode_cfg (m : Mode) (s : State) : (setMode m s).cfg = s.cfg := rfl
@[simp] theorem setMode_st (m : Mode) (s : State) : (setMode m s).st = s.st := rfl
@[simp] theorem setMode_mode (m : Mode) (s : State) : (setMode m s).mode = some m := rfl
@[simp] theorem setMode_lutLoaded (m : Mode) (s : State) : (setMode m s).lutLoaded = s.lutLoaded := rfl
@[simp] theorem setMode_busHeld (m : Mode) (s : State) : (setMode m s).busHeld = s.busHeld := rfl
@[simp] theorem setMode_prc (m : Mode) (s : State) : (setMode m s).prc = s.prc := rfl
@[simp] theorem setMode_orchMode (m : Mode) (s : State) : (setMode m s).orchMode = s.orchMode := rfl
@[simp] theorem setMode_fpValid (m : Mode) (s : State) : (setMode m s).fpValid = s.fpValid := rfl
@[simp] theorem setMode_fp (m : Mode) (s : State) : (setMode m s).fp = s.fp := rfl
@[simp] theorem setMode_pinRst (m : Mode) (s : State) : (setMode m s).pinRst = s.pinRst := rfl
@[simp] theorem setMode_pinDc (m : Mode) (s : State) : (setMode m s).pinDc = s.pinDc := rfl
@[simp] theorem setMode_pinCs (m : Mode) (s : State) : (setMode m s).pinCs = s.pinCs := rfl
@[simp] theorem setMode_trace (m : Mode) (s : State) : (setMode m s).trace = s.trace := rfl
@[simp] theorem setMode_answer (m : Mode) (s : State) : (setMode m s).answer = s.answer := rfl
@[simp] theorem setMode_inbox (m : Mode) (s : State) : (setMode m s).inbox = s.inbox := rfl
@[simp] theorem setMode_busy (m : Mode) (s : State) : (setMode m s).busy = s.busy := rfl
@[simp] theorem setMode_spi (m : Mode) (s : State) : (setMode m s).spi = s.spi := rfl
@[simp] theorem setMode_modInit (m : Mode) (s : State) : (setMode m s).modInit = s.modInit := rfl

/-! ### markLutLoaded -/

@[simp] theorem markLutLoaded_cfg (s : State) : (markLutLoaded s).cfg = s.cfg := rfl
@[simp] theorem markLutLoaded_st (s : State) : (markLutLoaded s).st = s.st := rfl
@[simp] theorem markLutLoaded_mode (s : State) : (markLutLoaded s).mode = s.mode := rfl
@[simp] theorem markLutLoaded_lutLoaded (s : State) : (markLutLoaded s).lutLoaded = true := rfl
@[simp] theorem markLutLoaded_busHeld (s : State) : (markLutLoaded s).busHeld = s.busHeld := rfl
@[simp] theorem markLutLoaded_prc (s : State) : (markLutLoaded s).prc = s.prc := rfl
@[simp] theorem markLutLoaded_orchMode (s : State) : (markLutLoaded s).orchMode = s.orchMode := rfl
@[simp] theorem markLutLoaded_fpValid (s : State) : (markLutLoaded s).fpValid = s.fpValid := rfl
@[simp] theorem markLutLoaded_fp (s : State) : (markLutLoaded s).fp = s.fp := rfl
@[simp] theorem markLutLoaded_pinRst (s : State) : (markLutLoaded s).pinRst = s.pinRst := rfl
@[simp] theorem markLutLoaded_pinDc (s : State) : (markLutLoaded s).pinDc = s.pinDc := rfl
@[simp] theorem markLutLoaded_pinCs (s : State) : (markLutLoaded s).pinCs = s.pinCs := rfl
@[simp] theorem markLutLoaded_trace (s : State) : (markLutLoaded s).trace = s.trace := rfl
@[simp] theorem markLutLoaded_answer (s : State) : (markLutLoaded s).answer = s.answer := rfl
@[simp] theorem markLutLoaded_inbox (s : State) : (markLutLoaded s).inbox = s.inbox := rfl
@[simp] theorem markLutLoaded_busy (s : State) : (markLutLoaded s).busy = s.busy := rfl
@[simp] theorem markLutLoaded_spi (s : State) : (markLutLoaded s).spi = s.spi := rfl
@[simp] theorem markLutLoaded_modInit (s : State) : (markLutLoaded s).modInit = s.modInit := rfl

/-! ### endSession -/

@[simp] theorem endSession_cfg (s : State) : (endSession s).cfg = s.cfg := rfl
@[simp] theorem endSession_st (s : State) : (endSession s).st = .sleeping := rfl
@[simp] theorem endSession_mode (s : State) : (endSession s).mode = none := rfl
@[simp] theorem endSession_lutLoaded (s : State) : (endSession s).lutLoaded = false := rfl
@[simp] theorem endSession_busHeld (s : State) : (endSession s).busHeld = false := rfl
@[simp] theorem endSession_prc (s : State) : (endSession s).prc = s.prc := rfl
@[simp] theorem endSession_orchMode (s : State) : (endSession s).orchMode = s.orchMode := rfl
@[simp] theorem endSession_fpValid (s : State) : (endSession s).fpValid = s.fpValid := rfl
@[simp] theorem endSession_fp (s : State) : (endSession s).fp = s.fp := rfl
@[simp] theorem endSession_pinRst (s : State) : (endSession s).pinRst = s.pinRst := rfl
@[simp] theorem endSession_pinDc (s : State) : (endSession s).pinDc = s.pinDc := rfl
@[simp] theorem endSession_pinCs (s : State) : (endSession s).pinCs = s.pinCs := rfl
@[simp] theorem endSession_trace (s : State) : (endSession s).trace = s.trace := rfl
@[simp] theorem endSession_answer (s : State) : (endSession s).answer = s.answer := rfl
@[simp] theorem endSession_inbox (s : State) : (endSession s).inbox = s.inbox := rfl
@[simp] theorem endSession_busy (s : State) : (endSession s).busy = s.busy := rfl
@[simp] theorem endSession_spi (s : State) : (endSession s).spi = s.spi := rfl
@[simp] theorem endSession_modInit (s : State) : (endSession s).modInit = s.modInit := rfl

/-! ### setOrchMode -/

@[simp] theorem setOrchMode_cfg (m : Mode) (s : State) : (setOrchMode m s).cfg = s.cfg := rfl
@[simp] theorem setOrchMode_st (m : Mode) (s : State) : (setOrchMode m s).st = s.st := rfl
@[simp] theorem setOrchMode_mode (m : Mode) (s : State) : (setOrchMode m s).mode = s.mode := rfl
@[simp] theorem setOrchMode_lutLoaded (m : Mode) (s : State) : (setOrchMode m s).lutLoaded = s.lutLoaded := rfl
@[simp] theorem setOrchMode_busHeld (m : Mode) (s : State) : (setOrchMode m s).busHeld = s.busHeld := rfl
@[simp] theorem setOrchMode_prc (m : Mode) (s : State) : (setOrchMode m s).prc = s.prc := rfl
@[simp] theorem setOrchMode_orchMode (m : Mode) (s : State) : (setOrchMode m s).orchMode = some m := rfl
@[simp] theorem setOrchMode_fpValid (m : Mode) (s : State) : (setOrchMode m s).fpValid = s.fpValid := rfl
@[simp] theorem setOrchMode_fp (m : Mode) (s : State) : (setOrchMode m s).fp = s.fp := rfl
@[simp] theorem setOrchMode_pinRst (m : Mode) (s : State) : (setOrchMode m s).pinRst = s.pinRst := rfl
@[simp] theorem setOrchMode_pinDc (m : Mode) (s : State) : (setOrchMode m s).pinDc = s.pinDc := rfl
@[simp] theorem setOrchMode_pinCs (m : Mode) (s : State) : (setOrchMode m s).pinCs = s.pinCs := rfl
@[simp] theorem setOrchMode_trace (m : Mode) (s : State) : (setOrchMode m s).trace = s.trace := rfl
@[simp] theorem setOrchMode_answer (m : Mode) (s : State) : (setOrchMode m s).answer = s.answer := rfl
@[simp] theorem setOrchMode_inbox (m : Mode) (s : State) : (setOrchMode m s).inbox = s.inbox := rfl
@[simp] theorem setOrchMode_busy (m : Mode) (s : State) : (setOrchMode m s).busy = s.busy := rfl
@[simp] theorem setOrchMode_spi (m : Mode) (s : State) : (setOrchMode m s).spi = s.spi := rfl
@[simp] theorem setOrchMode_modInit (m : Mode) (s : State) : (setOrchMode m s).modInit = s.modInit := rfl

/-! ### updateCount -/

@[simp] theorem updateCount_cfg (m : Mode) (s : State) : (updateCount m s).cfg = s.cfg := by cases m <;> rfl
@[simp] theorem updateCount_st (m : Mode) (s : State) : (updateCount m s).st = s.st := by cases m <;> rfl
@[simp] theorem updateCount_mode (m : Mode) (s : State) : (updateCount m s).mode = s.mode := by cases m <;> rfl
@[simp] theorem updateCount_lutLoaded (m : Mode) (s : State) : (updateCount m s).lutLoaded = s.lutLoaded := by cases m <;> rfl
@[simp] theorem updateCount_busHeld (m : Mode) (s : State) : (updateCount m s).busHeld = s.busHeld := by cases m <;> rfl
@[simp] theorem updateCount_prc (m : Mode) (s : State) : (updateCount m s).prc = countAfter m s.prc := by cases m <;> rfl
@[simp] theorem updateCount_orchMode (m : Mode) (s : State) : (updateCount m s).orchMode = s.orchMode := by cases m <;> rfl
@[simp] theorem updateCount_fpValid (m : Mode) (s : State) : (updateCount m s).fpValid = s.fpValid := by cases m <;> rfl
@[simp] theorem updateCount_fp (m : Mode) (s : State) : (updateCount m s).fp = s.fp := by cases m <;> rfl
@[simp] theorem updateCount_pinRst (m : Mode) (s : State) : (updateCount m s).pinRst = s.pinRst := by cases m <;> rfl
@[simp] theorem updateCount_pinDc (m : Mode) (s : State) : (updateCount m s).pinDc = s.pinDc := by cases m <;> rfl
@[simp] theorem updateCount_pinCs (m : Mode) (s : State) : (updateCount m s).pinCs = s.pinCs := by cases m <;> rfl
@[simp] theorem updateCount_trace (m : Mode) (s : State) : (updateCount m s).trace = s.trace := by cases m <;> rfl
@[simp] theorem updateCount_answer (m : Mode) (s : State) : (updateCount m s).answer = s.answer := by cases m <;> rfl
@[simp] theorem updateCount_inbox (m : Mode) (s : State) : (updateCount m s).inbox = s.inbox := by cases m <;> rfl
@[simp] theorem updateCount_busy (m : Mode) (s : State) : (updateCount m s).busy = s.busy := by cases m <;> rfl
@[simp] theorem updateCount_spi (m : Mode) (s : State) : (updateCount m s).spi = s.spi := by cases m <;> rfl
@[simp] theorem updateCount_modInit (m : Mode) (s : State) : (updateCount m s).modInit = s.modInit := by cases m <;> rfl

/-! ### storeFingerprint -/

@[simp] theorem storeFingerprint_cfg (d : Digest) (s : State) : (storeFingerprint d s).cfg = s.cfg := rfl
@[simp] theorem storeFingerprint_st (d : Digest) (s : State) : (storeFingerprint d s).st = s.st := rfl
@[simp] theorem storeFingerprint_mode (d : Digest) (s : State) : (storeFingerprint d s).mode = s.mode := rfl
@[simp] theorem storeFingerprint_lutLoaded (d : Digest) (s : State) : (storeFingerprint d s).lutLoaded = s.lutLoaded := rfl
@[simp] theorem storeFingerprint_busHeld (d : Digest) (s : State) : (storeFingerprint d s).busHeld = s.busHeld := rfl
@[simp] theorem storeFingerprint_prc (d : Digest) (s : State) : (storeFingerprint d s).prc = s.prc := rfl
@[simp] theorem storeFingerprint_orchMode (d : Digest) (s : State) : (storeFingerprint d s).orchMode = s.orchMode := rfl
@[simp] theorem storeFingerprint_fpValid (d : Digest) (s : State) : (storeFingerprint d s).fpValid = true := rfl
@[simp] theorem storeFingerprint_fp (d : Digest) (s : State) : (storeFingerprint d s).fp = d := rfl
@[simp] theorem storeFingerprint_pinRst (d : Digest) (s : State) : (storeFingerprint d s).pinRst = s.pinRst := rfl
@[simp] theorem storeFingerprint_pinDc (d : Digest) (s : State) : (storeFingerprint d s).pinDc = s.pinDc := rfl
@[simp] theorem storeFingerprint_pinCs (d : Digest) (s : State) : (storeFingerprint d s).pinCs = s.pinCs := rfl
@[simp] theorem storeFingerprint_trace (d : Digest) (s : State) : (storeFingerprint d s).trace = s.trace := rfl
@[simp] theorem storeFingerprint_answer (d : Digest) (s : State) : (storeFingerprint d s).answer = s.answer := rfl
@[simp] theorem storeFingerprint_inbox (d : Digest) (s : State) : (storeFingerprint d s).inbox = s.inbox := rfl
@[simp] theorem storeFingerprint_busy (d : Digest) (s : State) : (storeFingerprint d s).busy = s.busy := rfl
@[simp] theorem storeFingerprint_spi (d : Digest) (s : State) : (storeFingerprint d s).spi = s.spi := rfl
@[simp] theorem storeFingerprint_modInit (d : Digest) (s : State) : (storeFingerprint d s).modInit = s.modInit := rfl

/-! ### answerWith -/

@[simp] theorem answerWith_cfg (a : Answer) (s : State) : (answerWith a s).cfg = s.cfg := rfl
@[simp] theorem answerWith_st (a : Answer) (s : State) : (answerWith a s).st = s.st := rfl
@[simp] theorem answerWith_mode (a : Answer) (s : State) : (answerWith a s).mode = s.mode := rfl
@[simp] theorem answerWith_lutLoaded (a : Answer) (s : State) : (answerWith a s).lutLoaded = s.lutLoaded := rfl
@[simp] theorem answerWith_busHeld (a : Answer) (s : State) : (answerWith a s).busHeld = s.busHeld := rfl
@[simp] theorem answerWith_prc (a : Answer) (s : State) : (answerWith a s).prc = s.prc := rfl
@[simp] theorem answerWith_orchMode (a : Answer) (s : State) : (answerWith a s).orchMode = s.orchMode := rfl
@[simp] theorem answerWith_fpValid (a : Answer) (s : State) : (answerWith a s).fpValid = s.fpValid := rfl
@[simp] theorem answerWith_fp (a : Answer) (s : State) : (answerWith a s).fp = s.fp := rfl
@[simp] theorem answerWith_pinRst (a : Answer) (s : State) : (answerWith a s).pinRst = s.pinRst := rfl
@[simp] theorem answerWith_pinDc (a : Answer) (s : State) : (answerWith a s).pinDc = s.pinDc := rfl
@[simp] theorem answerWith_pinCs (a : Answer) (s : State) : (answerWith a s).pinCs = s.pinCs := rfl
@[simp] theorem answerWith_trace (a : Answer) (s : State) : (answerWith a s).trace = s.trace := rfl
@[simp] theorem answerWith_answer (a : Answer) (s : State) : (answerWith a s).answer = some a := rfl
@[simp] theorem answerWith_inbox (a : Answer) (s : State) : (answerWith a s).inbox = s.inbox := rfl
@[simp] theorem answerWith_busy (a : Answer) (s : State) : (answerWith a s).busy = s.busy := rfl
@[simp] theorem answerWith_spi (a : Answer) (s : State) : (answerWith a s).spi = s.spi := rfl
@[simp] theorem answerWith_modInit (a : Answer) (s : State) : (answerWith a s).modInit = s.modInit := rfl

/-! ### refuse -/

@[simp] theorem refuse_cfg (s : State) : (refuse s).cfg = s.cfg := rfl
@[simp] theorem refuse_st (s : State) : (refuse s).st = s.st := rfl
@[simp] theorem refuse_mode (s : State) : (refuse s).mode = s.mode := rfl
@[simp] theorem refuse_lutLoaded (s : State) : (refuse s).lutLoaded = s.lutLoaded := rfl
@[simp] theorem refuse_busHeld (s : State) : (refuse s).busHeld = s.busHeld := rfl
@[simp] theorem refuse_prc (s : State) : (refuse s).prc = s.prc := rfl
@[simp] theorem refuse_orchMode (s : State) : (refuse s).orchMode = s.orchMode := rfl
@[simp] theorem refuse_fpValid (s : State) : (refuse s).fpValid = s.fpValid := rfl
@[simp] theorem refuse_fp (s : State) : (refuse s).fp = s.fp := rfl
@[simp] theorem refuse_pinRst (s : State) : (refuse s).pinRst = s.pinRst := rfl
@[simp] theorem refuse_pinDc (s : State) : (refuse s).pinDc = s.pinDc := rfl
@[simp] theorem refuse_pinCs (s : State) : (refuse s).pinCs = s.pinCs := rfl
@[simp] theorem refuse_trace (s : State) : (refuse s).trace = s.trace := rfl
@[simp] theorem refuse_answer (s : State) : (refuse s).answer = some .refused := rfl
@[simp] theorem refuse_inbox (s : State) : (refuse s).inbox = s.inbox := rfl
@[simp] theorem refuse_busy (s : State) : (refuse s).busy = s.busy := rfl
@[simp] theorem refuse_spi (s : State) : (refuse s).spi = s.spi := rfl
@[simp] theorem refuse_modInit (s : State) : (refuse s).modInit = s.modInit := rfl

/-! ### abort -/

@[simp] theorem abort_cfg (v : St) (e : Raise) (s : State) : (abort v e s).cfg = s.cfg := rfl
@[simp] theorem abort_st (v : St) (e : Raise) (s : State) : (abort v e s).st = v := rfl
@[simp] theorem abort_mode (v : St) (e : Raise) (s : State) : (abort v e s).mode = s.mode := rfl
@[simp] theorem abort_lutLoaded (v : St) (e : Raise) (s : State) : (abort v e s).lutLoaded = s.lutLoaded := rfl
@[simp] theorem abort_busHeld (v : St) (e : Raise) (s : State) : (abort v e s).busHeld = s.busHeld := rfl
@[simp] theorem abort_prc (v : St) (e : Raise) (s : State) : (abort v e s).prc = s.prc := rfl
@[simp] theorem abort_orchMode (v : St) (e : Raise) (s : State) : (abort v e s).orchMode = s.orchMode := rfl
@[simp] theorem abort_fpValid (v : St) (e : Raise) (s : State) : (abort v e s).fpValid = s.fpValid := rfl
@[simp] theorem abort_fp (v : St) (e : Raise) (s : State) : (abort v e s).fp = s.fp := rfl
@[simp] theorem abort_pinRst (v : St) (e : Raise) (s : State) : (abort v e s).pinRst = s.pinRst := rfl
@[simp] theorem abort_pinDc (v : St) (e : Raise) (s : State) : (abort v e s).pinDc = s.pinDc := rfl
@[simp] theorem abort_pinCs (v : St) (e : Raise) (s : State) : (abort v e s).pinCs = s.pinCs := rfl
@[simp] theorem abort_trace (v : St) (e : Raise) (s : State) : (abort v e s).trace = s.trace := rfl
@[simp] theorem abort_answer (v : St) (e : Raise) (s : State) : (abort v e s).answer = some (.error e) := rfl
@[simp] theorem abort_inbox (v : St) (e : Raise) (s : State) : (abort v e s).inbox = s.inbox := rfl
@[simp] theorem abort_busy (v : St) (e : Raise) (s : State) : (abort v e s).busy = s.busy := rfl
@[simp] theorem abort_spi (v : St) (e : Raise) (s : State) : (abort v e s).spi = s.spi := rfl
@[simp] theorem abort_modInit (v : St) (e : Raise) (s : State) : (abort v e s).modInit = s.modInit := rfl

/-! ### resetPulse -/

@[simp] theorem resetPulse_cfg (s : State) : (resetPulse s).cfg = s.cfg := rfl
@[simp] theorem resetPulse_st (s : State) : (resetPulse s).st = .awaitingBusyClear := rfl
@[simp] theorem resetPulse_mode (s : State) : (resetPulse s).mode = s.mode := rfl
@[simp] theorem resetPulse_lutLoaded (s : State) : (resetPulse s).lutLoaded = s.lutLoaded := rfl
@[simp] theorem resetPulse_busHeld (s : State) : (resetPulse s).busHeld = s.busHeld := rfl
@[simp] theorem resetPulse_prc (s : State) : (resetPulse s).prc = s.prc := rfl
@[simp] theorem resetPulse_orchMode (s : State) : (resetPulse s).orchMode = s.orchMode := rfl
@[simp] theorem resetPulse_fpValid (s : State) : (resetPulse s).fpValid = s.fpValid := rfl
@[simp] theorem resetPulse_fp (s : State) : (resetPulse s).fp = s.fp := rfl
@[simp] theorem resetPulse_pinRst (s : State) : (resetPulse s).pinRst = some .l1 := rfl
@[simp] theorem resetPulse_pinDc (s : State) : (resetPulse s).pinDc = s.pinDc := rfl
@[simp] theorem resetPulse_pinCs (s : State) : (resetPulse s).pinCs = s.pinCs := rfl
@[simp] theorem resetPulse_trace (s : State) : (resetPulse s).trace = s.trace ++ evPulse := by
  simp [resetPulse, evPulse, rstAssert, rstDeassert, rstT1Ms, rstT2Ms, rstT3Ms]
@[simp] theorem resetPulse_answer (s : State) : (resetPulse s).answer = s.answer := rfl
@[simp] theorem resetPulse_inbox (s : State) : (resetPulse s).inbox = s.inbox := rfl
@[simp] theorem resetPulse_busy (s : State) : (resetPulse s).busy = s.busy := rfl
@[simp] theorem resetPulse_spi (s : State) : (resetPulse s).spi = s.spi := rfl
@[simp] theorem resetPulse_modInit (s : State) : (resetPulse s).modInit = s.modInit := rfl

/-! ### takeRequest -/

@[simp] theorem takeRequest_cfg (s : State) : (takeRequest s).cfg = s.cfg := rfl
@[simp] theorem takeRequest_st (s : State) : (takeRequest s).st = s.st := rfl
@[simp] theorem takeRequest_mode (s : State) : (takeRequest s).mode = s.mode := rfl
@[simp] theorem takeRequest_lutLoaded (s : State) : (takeRequest s).lutLoaded = s.lutLoaded := rfl
@[simp] theorem takeRequest_busHeld (s : State) : (takeRequest s).busHeld = s.busHeld := rfl
@[simp] theorem takeRequest_prc (s : State) : (takeRequest s).prc = s.prc := rfl
@[simp] theorem takeRequest_orchMode (s : State) : (takeRequest s).orchMode = s.orchMode := rfl
@[simp] theorem takeRequest_fpValid (s : State) : (takeRequest s).fpValid = s.fpValid := rfl
@[simp] theorem takeRequest_fp (s : State) : (takeRequest s).fp = s.fp := rfl
@[simp] theorem takeRequest_pinRst (s : State) : (takeRequest s).pinRst = s.pinRst := rfl
@[simp] theorem takeRequest_pinDc (s : State) : (takeRequest s).pinDc = s.pinDc := rfl
@[simp] theorem takeRequest_pinCs (s : State) : (takeRequest s).pinCs = s.pinCs := rfl
@[simp] theorem takeRequest_trace (s : State) : (takeRequest s).trace = s.trace := rfl
@[simp] theorem takeRequest_answer (s : State) : (takeRequest s).answer = s.answer := rfl
@[simp] theorem takeRequest_inbox (s : State) : (takeRequest s).inbox = s.inbox.tail := rfl
@[simp] theorem takeRequest_busy (s : State) : (takeRequest s).busy = s.busy := rfl
@[simp] theorem takeRequest_spi (s : State) : (takeRequest s).spi = s.spi := rfl
@[simp] theorem takeRequest_modInit (s : State) : (takeRequest s).modInit = s.modInit := rfl

end Sys2Proof.Machine
end

