-- ==== Sys2Proof/Laws/Ops.lean ====
section
/-! SUPPORT. What each shared operation can do, said once: ENV's answers, a transfer, a sequence of transfers, the busy
wait, taking the bus, running a list of steps, and the wrapper. -/

namespace Sys2Proof.Machine

/-! ### ENV's answers -/

theorem oracleAnswers_length {α : Type} (free : Nat → α) (n : Nat) (o : Oracle α) :
    (oracleAnswers free n o).length = n := by
  induction n generalizing o with
  | zero => rfl
  | succ n ih => simp [oracleAnswers, ih]

theorem oracleAnswers_add {α : Type} (free : Nat → α) (m n : Nat) (o : Oracle α) :
    oracleAnswers free (m + n) o = oracleAnswers free m o ++ oracleAnswers free n (oracleSkip m o) := by
  induction m generalizing o with
  | zero => simp [oracleAnswers, oracleSkip]
  | succ m ih => rw [Nat.succ_add]; simp [oracleAnswers, oracleSkip, ih]

theorem oracleSkip_add {α : Type} (m n : Nat) (o : Oracle α) :
    oracleSkip (m + n) o = oracleSkip n (oracleSkip m o) := by
  induction m generalizing o with
  | zero => simp [oracleSkip]
  | succ m ih => rw [Nat.succ_add]; simp [oracleSkip, ih]

/-- A known run of answers splits into the known answers of its two parts. -/
theorem oracleAnswers_split {α : Type} {free : Nat → α} {m n : Nat} {o : Oracle α} {xs ys : List α}
    (hx : xs.length = m) (h : oracleAnswers free (m + n) o = xs ++ ys) :
    oracleAnswers free m o = xs ∧ oracleAnswers free n (oracleSkip m o) = ys := by
  rw [oracleAnswers_add] at h
  exact List.append_inj h (by rw [oracleAnswers_length, hx])

theorem oracleAnswers_cons {α : Type} {free : Nat → α} {n : Nat} {o : Oracle α} {x : α} {xs : List α}
    (h : oracleAnswers free (n + 1) o = x :: xs) :
    oracleNext free o = x ∧ oracleAnswers free n (oracleAdvance o) = xs := by
  simpa [oracleAnswers] using h

/-! ### Transfers (R131, R133, R137) -/

@[simp] theorem spiSucceeds_pinWrite (p : OutPin) (l : Level) (s : State) :
    spiSucceeds (pinWrite p l s) = spiSucceeds s := by
  simp [spiSucceeds]

@[simp] theorem spiSucceeds_setSt (v : St) (s : State) : spiSucceeds (setSt v s) = spiSucceeds s := rfl

theorem spiSucceeds_of_transfersSucceed {n : Nat} {s : State} (h : transfersSucceed (n + 1) s) :
    spiSucceeds s = true := by
  rw [transfersSucceed, List.replicate_succ] at h
  exact (oracleAnswers_cons h).1

/-- A transfer that succeeds, with `S.st` put back after it. -/
theorem send_ok (during : St) (l : Level) (bs : List Byte) (s : State) (h : spiSucceeds s = true) :
    send during l bs s = .done (sent 1 l (evTransfer l bs) s) := by
  simp only [send, transfer, spiSucceeds_pinWrite, spiSucceeds_setSt, h, if_true]
  congr 1
  ext1 <;> simp [sent, evTransfer, oracleSkip, csSelected, csReleased, h]

/-- A transfer that fails: the error, with CS left selected. -/
theorem send_fail (during : St) (l : Level) (bs : List Byte) (s : State) (h : spiSucceeds s = false) :
    send during l bs s = .raised (.busTransaction l bs)
      { s with
        st := during
        trace := s.trace ++ evFailed l bs
        pinDc := some l
        pinCs := some .l0
        spi := oracleAdvance s.spi } := by
  simp only [send, transfer, spiSucceeds_pinWrite, spiSucceeds_setSt, h, Bool.false_eq_true, if_false]
  congr 1
  ext1 <;> simp [evFailed, csSelected, h]

theorem sent_sent (m n : Nat) (k l : Level) (e f : List Event) (s : State) :
    sent n l f (sent m k e s) = sent (m + n) l (e ++ f) s := by
  simp [sent, oracleSkip_add]

theorem transfersSucceed_add {m n : Nat} {s : State} (h : transfersSucceed (m + n) s) :
    transfersSucceed m s ∧ ∀ l e, transfersSucceed n (sent m l e s) := by
  rw [transfersSucceed, List.replicate_add] at h
  have := oracleAnswers_split (by simp) h
  exact ⟨this.1, fun _ _ => this.2⟩

/-- The step that sends one item: a command item at level 0, a data item at level 1. -/
def itemAction (x : Level × Byte) : Action :=
  match x.1 with
  | .l0 => .sendCmd x.2
  | .l1 => .sendData x.2

theorem wireActions_eq_items (w : WireCommand) : wireActions w = (itemList [w]).map itemAction := by
  simp [wireActions, itemList, itemAction, Function.comp_def]

theorem itemList_append (xs ys : List WireCommand) : itemList (xs ++ ys) = itemList xs ++ itemList ys := by
  simp [itemList]

theorem evItems_itemList (ws : List WireCommand) : evItems (itemList ws) = evCommands ws := by
  induction ws with
  | nil => rfl
  | cons w ws ih =>
    simp only [evItems, itemList, evCommands, List.flatMap_cons, List.flatMap_append] at *
    rw [ih]
    congr 1
    simp [evCommand, List.flatMap_map]

theorem runAction_item_ok (x : Level × Byte) (s : State) (h : spiSucceeds s = true) :
    runAction (itemAction x) s = .done (sent 1 x.1 (evTransfer x.1 [x.2]) s) := by
  obtain ⟨l, b⟩ := x
  cases l <;> exact send_ok _ _ _ s h

theorem runAction_item_fail (x : Level × Byte) (s : State) (h : spiSucceeds s = false) :
    ∃ d, runAction (itemAction x) s = .raised (.busTransaction x.1 [x.2])
      { sendFailed 0 x.1 [x.2] [] s with st := d, answer := s.answer } := by
  obtain ⟨l, b⟩ := x
  cases l
  · exact ⟨.transmittingCommand, (send_fail _ _ _ s h).trans (by simp [sendFailed, oracleSkip, dcCommand])⟩
  · exact ⟨.transmittingData, (send_fail _ _ _ s h).trans (by simp [sendFailed, oracleSkip, dcData])⟩

/-! ### Running steps -/

@[simp] theorem runAll_nil (s : State) : runAll [] s = .done s := rfl

theorem runAll_cons_done {a : Action} {as : List Action} {s t : State} (h : runAction a s = .done t) :
    runAll (a :: as) s = runAll as t := by
  simp [runAll, h]

theorem runAll_cons_raised {a : Action} {as : List Action} {s t : State} {e : Raise}
    (h : runAction a s = .raised e t) : runAll (a :: as) s = .raised e t := by
  simp [runAll, h]

theorem runAll_append_done {as bs : List Action} {s t : State} (h : runAll as s = .done t) :
    runAll (as ++ bs) s = runAll bs t := by
  induction as generalizing s with
  | nil => simp only [runAll, Run.done.injEq] at h; simp [h]
  | cons a as ih =>
    cases ha : runAction a s with
    | done u => rw [runAll_cons_done ha] at h; rw [List.cons_append, runAll_cons_done ha, ih h]
    | raised e u => rw [runAll_cons_raised ha] at h; cases h

theorem runAll_append_raised {as bs : List Action} {s t : State} {e : Raise} (h : runAll as s = .raised e t) :
    runAll (as ++ bs) s = .raised e t := by
  induction as generalizing s with
  | nil => cases h
  | cons a as ih =>
    cases ha : runAction a s with
    | done u => rw [runAll_cons_done ha] at h; rw [List.cons_append, runAll_cons_done ha, ih h]
    | raised e u => rw [runAll_cons_raised ha] at h; rw [List.cons_append, runAll_cons_raised ha, h]

/-- How a list of steps ends, by its two parts: the only ways it can. -/
theorem runAll_append_cases {as bs : List Action} {s : State} :
    (∃ t, runAll as s = .done t ∧ runAll (as ++ bs) s = runAll bs t) ∨
    (∃ e t, runAll as s = .raised e t ∧ runAll (as ++ bs) s = .raised e t) := by
  cases h : runAll as s with
  | done t => exact .inl ⟨t, rfl, runAll_append_done h⟩
  | raised e t => exact .inr ⟨e, t, rfl, runAll_append_raised h⟩

/-- The last DC level of a non-empty list of items. -/
theorem runAll_items_ok (xs : List (Level × Byte)) (x : Level × Byte) (s : State)
    (h : transfersSucceed (xs.length + 1) s) :
    runAll ((xs ++ [x]).map itemAction) s = .done (sent (xs.length + 1) x.1 (evItems (xs ++ [x])) s) := by
  induction xs generalizing s with
  | nil =>
    rw [List.nil_append, List.map_cons, runAll_cons_done (runAction_item_ok x s (spiSucceeds_of_transfersSucceed h))]
    simp [evItems]
  | cons y ys ih =>
    have h0 := spiSucceeds_of_transfersSucceed h
    rw [List.cons_append, List.map_cons, runAll_cons_done (runAction_item_ok y s h0)]
    have h1 : transfersSucceed (1 + (ys.length + 1)) s := by
      rw [Nat.add_comm]; simpa using h
    rw [ih _ ((transfersSucceed_add h1).2 _ _), sent_sent]
    simp [evItems, Nat.add_comm]

/-- The DC level of the last transfer of a wire command. -/
def commandDc (w : WireCommand) : Level :=
  if w.payload = [] then .l0 else .l1

/-- A wire command whose transfers all succeed (R150). -/
theorem runAll_wire_ok (w : WireCommand) (s : State) (h : transfersSucceed (w.payload.length + 1) s) :
    runAll (wireActions w) s =
      .done (sent (w.payload.length + 1) (commandDc w) (evCommand w) s) := by
  have e1 : evItems (itemList [w]) = evCommand w := by rw [evItems_itemList]; simp [evCommands]
  rw [wireActions_eq_items, ← e1]
  rcases List.eq_nil_or_concat w.payload with hp | ⟨ps, p, hp⟩
  · have hi : itemList [w] = [] ++ [(Level.l0, w.op)] := by simp [itemList, hp]
    rw [hi, runAll_items_ok [] _ s (by simpa [hp] using h)]
    simp [hp, commandDc]
  · have hi : itemList [w] = ((Level.l0, w.op) :: ps.map fun b => (Level.l1, b)) ++ [(Level.l1, p)] := by
      simp [itemList, hp]
    rw [hi, runAll_items_ok _ _ s (by simpa [hp] using h)]
    simp [hp, commandDc]

/-- Several wire commands whose transfers all succeed. -/
theorem runAll_commands_ok (ws : List WireCommand) (w : WireCommand) (s : State)
    (h : transfersSucceed (itemList (ws ++ [w])).length s) :
    runAll ((ws ++ [w]).flatMap wireActions) s =
      .done (sent (itemList (ws ++ [w])).length (commandDc w) (evCommands (ws ++ [w])) s) := by
  induction ws generalizing s with
  | nil =>
    have hl : (itemList ([] ++ [w])).length = w.payload.length + 1 := by simp [itemList]
    rw [hl] at h ⊢
    simpa [evCommands] using runAll_wire_ok w s h
  | cons v vs ih =>
    have hl : (itemList (v :: vs ++ [w])).length = (v.payload.length + 1) + (itemList (vs ++ [w])).length := by
      simp [itemList]; omega
    rw [hl] at h ⊢
    rw [List.cons_append, List.flatMap_cons,
      runAll_append_done (runAll_wire_ok v s (transfersSucceed_add h).1), ih _ ((transfersSucceed_add h).2 _ _), sent_sent]
    simp [evCommands]

theorem transferFailsAfter_zero {s : State} (h : transferFailsAfter 0 s) : spiSucceeds s = false :=
  (oracleAnswers_cons (xs := []) h).1

theorem transferFailsAfter_succ {k : Nat} {s : State} (h : transferFailsAfter (k + 1) s) :
    spiSucceeds s = true ∧ ∀ l e, transferFailsAfter k (sent 1 l e s) := by
  rw [transferFailsAfter, List.replicate_succ, List.cons_append] at h
  exact ⟨(oracleAnswers_cons h).1, fun _ _ => (oracleAnswers_cons h).2⟩

/-- Items of which one fails: those before it are sent, nothing follows. `S.st` is where the failing helper held it. -/
theorem runAll_items_fail (xs : List (Level × Byte)) (k : Nat) (x : Level × Byte) (s : State)
    (hx : xs[k]? = some x) (h : transferFailsAfter k s) (rest : List Action) :
    ∃ d, runAll (xs.map itemAction ++ rest) s = .raised (.busTransaction x.1 [x.2])
      { sendFailed k x.1 [x.2] (evItems (xs.take k)) s with st := d, answer := s.answer } := by
  induction k generalizing xs s with
  | zero =>
    cases xs with
    | nil => simp at hx
    | cons y ys =>
      obtain rfl : y = x := by simpa using hx
      obtain ⟨d, hd⟩ := runAction_item_fail y s (transferFailsAfter_zero h)
      exact ⟨d, by rw [List.map_cons, List.cons_append, runAll_cons_raised hd]; simp [evItems]⟩
  | succ k ih =>
    cases xs with
    | nil => simp at hx
    | cons y ys =>
      obtain ⟨h0, h1⟩ := transferFailsAfter_succ h
      obtain ⟨d, hd⟩ := ih ys _ (by simpa using hx) (h1 y.1 (evTransfer y.1 [y.2]))
      refine ⟨d, ?_⟩
      rw [List.map_cons, List.cons_append, runAll_cons_done (runAction_item_ok y s h0), hd]
      simp [sendFailed, sent, evItems, oracleSkip]

theorem commands_eq_items (ws : List WireCommand) : ws.flatMap wireActions = (itemList ws).map itemAction := by
  induction ws with
  | nil => rfl
  | cons w ws ih =>
    rw [List.flatMap_cons, ih, wireActions_eq_items, ← List.map_append, ← itemList_append]
    rfl

/-! ### The busy wait (R140) -/

/-- The loop meets idle after `n` busy samples. -/
theorem pollLoop_ok (poll n more m : Nat) (s : State) (hn : n ≤ more)
    (h : oracleAnswers Config.freeBusy (n + 1) s.busy = List.replicate n .l1 ++ [.l0]) :
    pollLoop poll more m s = .done { s with
      st := .ready
      trace := s.trace ++ evWait poll n
      busy := oracleSkip (n + 1) s.busy } := by
  induction n generalizing more m s with
  | zero =>
    have hl : busyLevel s = .l0 := (oracleAnswers_cons (xs := []) h).1
    unfold pollLoop
    rw [hl]
    simp only [busyIdle, if_true]
    congr 1
    ext1 <;> simp [hl, evWait, evBusy, oracleSkip]
  | succ n ih =>
    rw [List.replicate_succ, List.cons_append] at h
    obtain ⟨hl, hr⟩ := oracleAnswers_cons h
    have hl : busyLevel s = .l1 := hl
    cases more with
    | zero => omega
    | succ k =>
      unfold pollLoop
      rw [hl]
      simp only [busyIdle, reduceCtorEq, if_false]
      rw [ih k (m + 1) _ (by omega) (by simpa using hr)]
      congr 1
      ext1 <;> simp [hl, evWait, evBusy, oracleSkip, List.replicate_succ]

/-- The loop reads busy to its bound. -/
theorem pollLoop_timeout (poll more m : Nat) (s : State)
    (h : oracleAnswers Config.freeBusy (more + 1) s.busy = List.replicate (more + 1) .l1) :
    pollLoop poll more m s = .raised (.deviceNotResponding (m + (more + 1))) { s with
      trace := s.trace ++ evTimeout poll more
      busy := oracleSkip (more + 1) s.busy } := by
  induction more generalizing m s with
  | zero =>
    have hl : busyLevel s = .l1 := (oracleAnswers_cons (xs := []) h).1
    unfold pollLoop
    rw [hl]
    simp only [busyIdle, reduceCtorEq, if_false]
    congr 1
    ext1 <;> simp [hl, evTimeout, evBusy, oracleSkip]
  | succ k ih =>
    rw [List.replicate_succ] at h
    obtain ⟨hl, hr⟩ := oracleAnswers_cons h
    have hl : busyLevel s = .l1 := hl
    unfold pollLoop
    rw [hl]
    simp only [busyIdle, reduceCtorEq, if_false]
    rw [ih (m + 1) _ (by simpa using hr)]
    congr 1
    · congr 1; omega
    · ext1 <;> simp [hl, evTimeout, evBusy, oracleSkip, List.replicate_succ]

/-- A wait that meets idle within its bound. -/
theorem waitIdle_ok (poll n : Nat) (s : State) (hn : n + 1 ≤ busyMaxPolls s.cfg)
    (h : oracleAnswers Config.freeBusy (n + 1) s.busy = List.replicate n .l1 ++ [.l0]) :
    waitIdleHelper poll s = .done { s with
      st := .ready
      trace := s.trace ++ evWait poll n
      busy := oracleSkip (n + 1) s.busy } := by
  have := pollLoop_ok poll n s.cfg.pollsAfterFirst 0 (setSt .awaitingBusyClear s)
    (by unfold busyMaxPolls at hn; omega) (by simpa using h)
  simpa [waitIdleHelper, setSt] using this

/-- A wait that reads busy to its bound. -/
theorem waitIdle_timeout (poll : Nat) (s : State) (h : waitTimesOut s) :
    waitIdleHelper poll s = .raised (.deviceNotResponding (busyMaxPolls s.cfg)) { s with
      st := .awaitingBusyClear
      trace := s.trace ++ evTimeout poll (busyMaxPolls s.cfg - 1)
      busy := oracleSkip (busyMaxPolls s.cfg) s.busy } := by
  have := pollLoop_timeout poll s.cfg.pollsAfterFirst 0 (setSt .awaitingBusyClear s)
    (by simpa [waitTimesOut, busyMaxPolls] using h)
  simpa [waitIdleHelper, setSt, busyMaxPolls] using this

/-- ENV's samples of several waits are those of the first wait, then those of the others. -/
theorem waitsMeetIdle_cons {n : Nat} {ns : List Nat} {s : State} (h : waitsMeetIdle (n :: ns) s) :
    (n + 1 ≤ busyMaxPolls s.cfg ∧
      oracleAnswers Config.freeBusy (n + 1) s.busy = List.replicate n .l1 ++ [.l0]) ∧
    ∀ t : State, t.cfg = s.cfg → t.busy = oracleSkip (n + 1) s.busy → waitsMeetIdle ns t := by
  obtain ⟨hb, ha⟩ := h
  have hr : readsOf (n :: ns) = (n + 1) + readsOf ns := by simp [readsOf]
  have hs : samples (n :: ns) = (List.replicate n Level.l1 ++ [Level.l0]) ++ samples ns := by simp [samples]
  rw [hr, hs] at ha
  have hsplit := oracleAnswers_split (by simp) ha
  refine ⟨⟨hb n (by simp), hsplit.1⟩, fun t hc ht => ⟨?_, ?_⟩⟩
  · intro k hk; rw [hc]; exact hb k (by simp [hk])
  · rw [ht]; exact hsplit.2

/-! ### Taking the bus (R130) -/

theorem acquire_ok (s : State) (h : busTakes s) : acquire s = .done (tookBus s) := by
  unfold acquire tookBus
  by_cases hb : s.busHeld = true
  · simp [hb]
  · have hm : modInitStatus s = 0 := h.resolve_left hb
    simp only [hb, modInitOk, hm, if_true, Bool.false_eq_true, if_false]
    congr 1
    ext1 <;> simp [hm]

theorem acquire_fail (s : State) (h : ¬ busTakes s) :
    acquire s = .raised (.hardwareInit (modInitStatus s)) (modInitCall s) := by
  have hb : s.busHeld ≠ true := fun hb => h (.inl hb)
  have hm : modInitStatus s ≠ 0 := fun hm => h (.inr hm)
  simp [acquire, hb, hm, modInitOk]

/-! ### What any step leaves alone -/

/-- The state a run ends in, done or raised. -/
def runState : Run → State
  | .done t => t
  | .raised _ t => t

theorem transfer_trace (l : Level) (bs : List Byte) (s : State) :
    ∃ more, (runState (transfer l bs s)).trace = s.trace ++ more ∧ (runState (transfer l bs s)).cfg = s.cfg ∧
      (runState (transfer l bs s)).inbox = s.inbox ∧ (runState (transfer l bs s)).answer = s.answer := by
  cases h : spiSucceeds s <;> simp [transfer, h, runState]

theorem send_trace (d : St) (l : Level) (bs : List Byte) (s : State) :
    ∃ more, (runState (send d l bs s)).trace = s.trace ++ more ∧ (runState (send d l bs s)).cfg = s.cfg ∧
      (runState (send d l bs s)).inbox = s.inbox ∧ (runState (send d l bs s)).answer = s.answer := by
  have h := transfer_trace l bs (setSt d s)
  unfold send
  cases ht : transfer l bs (setSt d s) <;> simpa [ht, runState] using h

theorem pollLoop_trace (poll more n : Nat) (s : State) :
    ∃ evs, (runState (pollLoop poll more n s)).trace = s.trace ++ evs ∧ (runState (pollLoop poll more n s)).cfg = s.cfg ∧
      (runState (pollLoop poll more n s)).inbox = s.inbox ∧ (runState (pollLoop poll more n s)).answer = s.answer := by
  induction more generalizing n s with
  | zero =>
    unfold pollLoop
    split <;> simp [runState]
  | succ k ih =>
    unfold pollLoop
    split
    · simp [runState]
    · obtain ⟨evs, h1, h2, h3, h4⟩ := ih (n + 1) (delayMs poll (pinReadBusy s))
      exact ⟨_, h1.trans (by simp only [delayMs_trace, pinReadBusy_trace, List.append_assoc]; rfl), h2, h3, h4⟩

/-- Every step only adds to the trace, and touches neither the configuration, nor the inbox, nor the answer. -/
theorem runAction_trace (a : Action) (s : State) :
    ∃ more, (runState (runAction a s)).trace = s.trace ++ more ∧ (runState (runAction a s)).cfg = s.cfg ∧
      (runState (runAction a s)).inbox = s.inbox ∧ (runState (runAction a s)).answer = s.answer := by
  cases a with
  | acquire => simp only [runAction]; unfold acquire; split_ifs <;> simp [runState]
  | resetPulse => simp [runAction, runState]
  | waitIdle poll => simpa [runAction, waitIdleHelper] using pollLoop_trace poll s.cfg.pollsAfterFirst 0 (setSt .awaitingBusyClear s)
  | sendCmd op => exact send_trace _ _ _ s
  | sendData b => exact send_trace _ _ _ s
  | sendBulk bs => exact send_trace _ _ _ s
  | beginTrigger => simp [runAction, runState]
  | markLutLoaded => simp [runAction, runState]
  | setMode m => simp [runAction, runState]
  | delay n => simp [runAction, runState]
  | endSession => simp [runAction, runState]
  | countRefresh m => simp [runAction, runState]
  | store d => simp [runAction, runState]

theorem runAll_trace (as : List Action) (s : State) :
    ∃ more, (runState (runAll as s)).trace = s.trace ++ more ∧ (runState (runAll as s)).cfg = s.cfg ∧
      (runState (runAll as s)).inbox = s.inbox ∧ (runState (runAll as s)).answer = s.answer := by
  induction as generalizing s with
  | nil => simp [runState]
  | cons a as ih =>
    have ha := runAction_trace a s
    cases h : runAction a s with
    | raised e t => rw [runAll_cons_raised h]; rw [h] at ha; exact ha
    | done t =>
      rw [runAll_cons_done h]
      rw [h] at ha
      obtain ⟨m1, a1, a2, a3, a4⟩ := ha
      obtain ⟨m2, b1, b2, b3, b4⟩ := ih t
      simp only [runState] at a1 a2 a3 a4
      exact ⟨m1 ++ m2, by rw [b1, a1, List.append_assoc], b2.trans a2, b3.trans a3, b4.trans a4⟩

/-! ### The wrapper (R139, R257) -/

theorem hostOp_done {entry : List St} {body : State → Run} {v : Value} {s t : State} (hs : s.st ∈ entry)
    (hb : body s = .done t) : hostOp entry true body v s = answerWith (.ok v) t := by
  simp [hostOp, hs, hb]

theorem hostOp_raised {entry : List St} {body : State → Run} {v : Value} {s t : State} {e : Raise}
    (hs : s.st ∈ entry) (hb : body s = .raised e t) : hostOp entry true body v s = abort s.st e t := by
  simp [hostOp, hs, hb]

theorem hostOp_refused {entry : List St} {accepted : Bool} {body : State → Run} {v : Value} {s : State}
    (h : s.st ∉ entry ∨ accepted = false) : hostOp entry accepted body v s = refuse s := by
  unfold hostOp
  rcases h with h | h
  · simp [h]
  · simp [h]

/-- Everything the wrapper can do. -/
theorem hostOp_cases (entry : List St) (accepted : Bool) (body : State → Run) (v : Value) (s : State) :
    ((s.st ∉ entry ∨ accepted = false) ∧ hostOp entry accepted body v s = refuse s) ∨
    (s.st ∈ entry ∧ accepted = true ∧ ∃ t, body s = .done t ∧ hostOp entry accepted body v s = answerWith (.ok v) t) ∨
    (s.st ∈ entry ∧ accepted = true ∧
      ∃ e t, body s = .raised e t ∧ hostOp entry accepted body v s = abort s.st e t) := by
  by_cases hs : s.st ∈ entry
  · cases accepted with
    | false => exact .inl ⟨.inr rfl, hostOp_refused (.inr rfl)⟩
    | true =>
      cases hb : body s with
      | done t => exact .inr (.inl ⟨hs, rfl, t, rfl, hostOp_done hs hb⟩)
      | raised e t => exact .inr (.inr ⟨hs, rfl, e, t, rfl, hostOp_raised hs hb⟩)
  · exact .inl ⟨.inl hs, hostOp_refused (.inl hs)⟩

end Sys2Proof.Machine
end

