-- ==== Sys2Proof/Laws/Exec.lean ====
section
/-! SUPPORT. Every instruction in one form: entry states, operand precondition, an error found before the first step, steps,
value. A proof over all instructions goes through `exec_eq_runPlan` and facts about `plan`, and unfolds no meaning. -/

namespace Sys2Proof.Machine

/-- What an instruction is made of, read off the state it starts in. -/
structure Plan where
  entry : List St
  accepted : Bool
  early : Option Raise
  actions : List Action
  value : Value

/-- The body of a plan. -/
def Plan.body (p : Plan) (s : State) : Run :=
  match p.early with
  | some e => .raised e s
  | none => runAll p.actions s

/-- Runs a plan in the wrapper. -/
def runPlan (p : Plan) (s : State) : State :=
  hostOp p.entry p.accepted p.body p.value s

/-- The steps of an operation that is sent in Ready, or of one with other entry states, that answers no value. -/
def planSteps (entry : List St) (accepted : Bool) (as : List Action) : Plan :=
  ⟨entry, accepted, none, as, .none⟩

/-- The error for a raster of the wrong shape. -/
def shapeError (c : Config) (img : Raster) : Option Raise :=
  match orientation c img with
  | some _ => none
  | none => some (.unsupportedImageDimensions img.iw img.ih)

/-- An operation that computes a value in any state. -/
def planPure (accepted : Bool) (early : Option Raise) (v : Value) : Plan :=
  ⟨allStates, accepted, early, [], v⟩
where
  allStates : List St :=
    [.uninitialized, .resetting, .awaitingBusyClear, .ready, .transmittingCommand, .transmittingData,
      .triggeringRefresh, .sleeping]

/-- The buffer an encoder answers; the empty list where the raster has no orientation. -/
def encodedBuffer (c : Config) (img : Raster) (enc : Config → Orientation → Raster → List Byte) : List Byte :=
  match orientation c img with
  | some o => enc c o img
  | none => []

/-- REFRESH.m as a plan. -/
def planRefresh (m : Mode) (buf : List Byte) (pp : Bool) (s : State) : Plan :=
  planSteps entryVisible (refreshAccepted s.cfg m buf pp) (refreshActions s.cfg s.lutLoaded (selectMode s m pp) buf)

/-- UPDATE.m as a plan. -/
def planUpdate (m : Mode) (img : Raster) (pp force : Bool) (s : State) : Plan :=
  ⟨entryVisible, updateAccepted m pp, shapeError s.cfg img,
    if shouldUpdate s (Config.fingerprint img) force then
      refreshActions s.cfg s.lutLoaded (selectMode s m pp) (encodedBuffer s.cfg img (encodeFor m)) ++
        [.store (Config.fingerprint img)]
    else [],
    .transmitted (shouldUpdate s (Config.fingerprint img) force)⟩

/-- A wire command sent byte by byte, as a plan. -/
def planWire (w : WireCommand) : Plan := planSteps entryReady true (wireActions w)

/-- A frame command as a plan. -/
def planFrame (c : Config) (w : WireCommand) : Plan :=
  planSteps entryReady (w.payload.length == monoLen c) (frameActions w)

/-- The plan of every instruction. -/
def plan (i : Instr) (s : State) : Plan :=
  match i with
  | .encMono img => planPure true (shapeError s.cfg img) (.bytes (encodedBuffer s.cfg img encodeMono))
  | .encGray img => planPure true (shapeError s.cfg img) (.bytes (encodedBuffer s.cfg img encodeGray))
  | .repack g =>
    planPure (g.length == grayLen s.cfg) none
      (.planes (repackPlane s.cfg plane1Rule g) (repackPlane s.cfg plane2Rule g))
  | .reset => planSteps entryVisible true [.acquire, .resetPulse]
  | .waitIdle poll => planSteps entryWait true [.waitIdle (pollOperand poll)]
  | .sendCmd op => planSteps entryReady true [.sendCmd op]
  | .sendData b => planSteps entryReady true [.sendData b]
  | .sendBulk bs => planSteps entryReady true [.sendBulk bs]
  | .setWindow x0 y0 x1 y1 => planSteps entryReady true (setWindowActions ⟨x0, y0, x1, y1⟩)
  | .setCursor x y => planSteps entryReady true (setCursorActions x y)
  | .loadLut => planSteps entryReady (!s.lutLoaded) (loadLutActions s.cfg)
  | .initFull => planSteps entryVisible true (initActions s.cfg s.lutLoaded .full)
  | .initFast => planSteps entryVisible true (initActions s.cfg s.lutLoaded .fast)
  | .initPartial => planSteps entryVisible true (initActions s.cfg s.lutLoaded .part)
  | .initGrayscale => planSteps entryVisible true (initActions s.cfg s.lutLoaded .grayscale)
  | .triggerFull => planSteps entryReady true (triggerActions .full)
  | .triggerFast => planSteps entryReady true (triggerActions .fast)
  | .triggerPartial => planSteps entryReady true (triggerActions .part)
  | .triggerGrayscale => planSteps entryReady true (triggerActions .grayscale)
  | .sleep => planSteps entryReady true (sleepActions s.cfg)
  | .refreshFull buf pp => planRefresh .full buf pp s
  | .refreshFast buf pp => planRefresh .fast buf pp s
  | .refreshGrayscale buf pp => planRefresh .grayscale buf pp s
  | .fpCompute img => planPure true none (.digest (Config.fingerprint img))
  | .shouldUpdate fp force => planPure true none (.bit (shouldUpdate s fp force))
  | .updateFull img pp force => planUpdate .full img pp force s
  | .updateFast img pp force => planUpdate .fast img pp force s
  | .updateGrayscale img pp force => planUpdate .grayscale img pp force s
  | .wireDriverOutputControl => planWire (cmdDriverOutput s.cfg)
  | .wireDataEntryMode => planWire cmdDataEntry
  | .wireResetDeepSleep => planWire cmdResetDeepSleep
  | .wireSetRamXWindow x0 x1 => planWire (cmdXWindow x0 x1)
  | .wireSetRamYWindow y0 y1 => planWire (cmdYWindow y0 y1)
  | .wireBorderWaveform b => planWire (cmdBorder b)
  | .wireBoosterSoftStart => planWire cmdBooster
  | .wireTempSensorSelect => planWire cmdTempSensor
  | .wireSetRamXAddrCounter x => planWire (cmdXCounter x)
  | .wireSetRamYAddrCounter y => planWire (cmdYCounter y)
  | .wireDisplayUpdateControl2 ctl => planWire (cmdUpdateControl ctl)
  | .wireMasterActivation => planWire cmdMasterActivation
  | .wireWriteLutRegister => planWire (cmdLut s.cfg)
  | .wireGateLineEnd => planWire (cmdGateLineEnd s.cfg)
  | .wireGateDrivingVoltage => planWire (cmdGateVoltage s.cfg)
  | .wireVcomRegister => planWire (cmdVcom s.cfg)
  | .wireWriteBwRamPlane1 bs => planFrame s.cfg (cmdRamPlane1 bs)
  | .wireWriteBwRamPlane2 bs => planFrame s.cfg (cmdRamPlane2 bs)
  | .wireDeepSleep => planWire cmdDeepSleep

theorem mem_allStates (v : St) : v ∈ planPure.allStates := by
  cases v <;> decide

theorem runPlan_pure_error (e : Raise) (v : Value) (s : State) :
    runPlan (planPure true (some e) v) s = answerWith (.error e) s :=
  hostOp_raised (mem_allStates s.st) rfl

theorem runPlan_pure_ok (v : Value) (s : State) : runPlan (planPure true none v) s = answerWith (.ok v) s :=
  hostOp_done (mem_allStates s.st) rfl

theorem runPlan_pure_refused (v : Value) (s : State) : runPlan (planPure false none v) s = refuse s :=
  hostOp_refused (.inr rfl)

theorem encodeAnswer_eq_runPlan (img : Raster) (enc : Config → Orientation → Raster → List Byte) (s : State) :
    answerWith (encodeAnswer s.cfg img enc) s =
      runPlan (planPure true (shapeError s.cfg img) (.bytes (encodedBuffer s.cfg img enc))) s := by
  cases h : orientation s.cfg img with
  | some o => simp only [encodeAnswer, shapeError, encodedBuffer, h]; exact (runPlan_pure_ok _ s).symm
  | none => simp only [encodeAnswer, shapeError, encodedBuffer, h]; exact (runPlan_pure_error _ _ s).symm

theorem updateOp_eq_runPlan (m : Mode) (img : Raster) (pp force : Bool) (s : State) :
    updateOp m img pp force s = runPlan (planUpdate m img pp force s) s := by
  unfold updateOp runPlan hostOp
  have hb : updateBody m img pp force s = (planUpdate m img pp force s).body s := by
    unfold updateBody Plan.body planUpdate shapeError encodedBuffer
    cases orientation s.cfg img with
    | none => rfl
    | some o => cases shouldUpdate s (Config.fingerprint img) force <;> rfl
  rw [hb]
  rfl

/-- Every instruction is its plan. -/
theorem exec_eq_runPlan (i : Instr) (s : State) : exec i s = .next (runPlan (plan i s) s) := by
  cases i
  case encMono img => exact congrArg _ (encodeAnswer_eq_runPlan img encodeMono s)
  case encGray img => exact congrArg _ (encodeAnswer_eq_runPlan img encodeGray s)
  case repack g =>
    refine congrArg Host.Outcome.next ?_
    by_cases h : g.length = grayLen s.cfg
    · simp only [h, if_true, plan, beq_self_eq_true]; exact (runPlan_pure_ok _ s).symm
    · simp only [h, if_false, plan, beq_eq_false_iff_ne.2 h]; exact (runPlan_pure_refused _ s).symm
  case fpCompute img => exact congrArg _ (runPlan_pure_ok _ s).symm
  case shouldUpdate fp force => exact congrArg _ (runPlan_pure_ok _ s).symm
  case updateFull img pp force => exact congrArg _ (updateOp_eq_runPlan .full img pp force s)
  case updateFast img pp force => exact congrArg _ (updateOp_eq_runPlan .fast img pp force s)
  case updateGrayscale img pp force => exact congrArg _ (updateOp_eq_runPlan .grayscale img pp force s)
  all_goals rfl

/-- Everything a plan can do. -/
theorem runPlan_cases (p : Plan) (s : State) :
    ((s.st ∉ p.entry ∨ p.accepted = false) ∧ runPlan p s = refuse s) ∨
    (s.st ∈ p.entry ∧ p.accepted = true ∧ p.early = none ∧
      ∃ t, runAll p.actions s = .done t ∧ runPlan p s = answerWith (.ok p.value) t) ∨
    (s.st ∈ p.entry ∧ p.accepted = true ∧ p.early = none ∧
      ∃ e t, runAll p.actions s = .raised e t ∧ runPlan p s = abort s.st e t) ∨
    (s.st ∈ p.entry ∧ p.accepted = true ∧ ∃ e, p.early = some e ∧ runPlan p s = abort s.st e s) := by
  rcases hostOp_cases p.entry p.accepted p.body p.value s with h | ⟨h1, h2, t, hb, h⟩ | ⟨h1, h2, e, t, hb, h⟩
  · exact .inl h
  · unfold Plan.body at hb
    cases he : p.early with
    | none => rw [he] at hb; exact .inr (.inl ⟨h1, h2, rfl, t, hb, h⟩)
    | some r => rw [he] at hb; cases hb
  · unfold Plan.body at hb
    cases he : p.early with
    | none => rw [he] at hb; exact .inr (.inr (.inl ⟨h1, h2, rfl, e, t, hb, h⟩))
    | some r => rw [he] at hb; cases hb; exact .inr (.inr (.inr ⟨h1, h2, e, rfl, h⟩))

/-- A property every step of a list keeps holds where the list ends, done or raised. -/
theorem runAll_keeps (P : State → Prop) {as : List Action} (h : ∀ a ∈ as, ∀ s, P s → P (runState (runAction a s)))
    {s : State} (hs : P s) : P (runState (runAll as s)) := by
  induction as generalizing s with
  | nil => exact hs
  | cons a as ih =>
    have ha := h a (by simp) s hs
    cases hr : runAction a s with
    | raised e t => rw [runAll_cons_raised hr]; rw [hr] at ha; exact ha
    | done t => rw [runAll_cons_done hr]; rw [hr] at ha; exact ih (fun b hb => h b (by simp [hb])) ha

/-! ### Which steps the operations are made of -/

/-- The steps every driver operation may take; the others are each taken by named operations only. -/
def Action.common (a : Action) : Bool :=
  match a with
  | .sendCmd _ | .sendData _ | .sendBulk _ | .waitIdle _ | .resetPulse | .delay _ | .beginTrigger => true
  | _ => false

/-- A transfer moves no register but `S.st`. -/
theorem send_fields (d : St) (l : Level) (bs : List Byte) (s : State) :
    (runState (send d l bs s)).mode = s.mode ∧ (runState (send d l bs s)).lutLoaded = s.lutLoaded ∧
      (runState (send d l bs s)).busHeld = s.busHeld ∧ (runState (send d l bs s)).prc = s.prc ∧
      (runState (send d l bs s)).orchMode = s.orchMode ∧ (runState (send d l bs s)).fp = s.fp ∧
      (runState (send d l bs s)).fpValid = s.fpValid := by
  cases h : spiSucceeds s <;> simp [send, transfer, h, runState]

/-- A busy wait moves no register but `S.st`. -/
theorem pollLoop_fields (poll more n : Nat) (s : State) :
    (runState (pollLoop poll more n s)).mode = s.mode ∧ (runState (pollLoop poll more n s)).lutLoaded = s.lutLoaded ∧
      (runState (pollLoop poll more n s)).busHeld = s.busHeld ∧ (runState (pollLoop poll more n s)).prc = s.prc ∧
      (runState (pollLoop poll more n s)).orchMode = s.orchMode ∧ (runState (pollLoop poll more n s)).fp = s.fp ∧
      (runState (pollLoop poll more n s)).fpValid = s.fpValid := by
  induction more generalizing n s with
  | zero =>
    unfold pollLoop
    split <;> simp [runState]
  | succ k ih =>
    unfold pollLoop
    split
    · simp [runState]
    · have := ih (n + 1) (delayMs poll (pinReadBusy s))
      simpa using this

/-- A common step moves no register but `S.st`. -/
theorem common_fields {a : Action} (h : a.common = true) (s : State) :
    (runState (runAction a s)).mode = s.mode ∧ (runState (runAction a s)).lutLoaded = s.lutLoaded ∧
      (runState (runAction a s)).busHeld = s.busHeld ∧ (runState (runAction a s)).prc = s.prc ∧
      (runState (runAction a s)).orchMode = s.orchMode ∧ (runState (runAction a s)).fp = s.fp ∧
      (runState (runAction a s)).fpValid = s.fpValid := by
  cases a with
  | sendCmd op => exact send_fields _ _ _ s
  | sendData b => exact send_fields _ _ _ s
  | sendBulk bs => exact send_fields _ _ _ s
  | waitIdle poll => exact pollLoop_fields poll s.cfg.pollsAfterFirst 0 (setSt .awaitingBusyClear s)
  | resetPulse => simp [runAction, runState]
  | delay n => simp [runAction, runState]
  | beginTrigger => simp [runAction, runState]
  | acquire => cases h
  | markLutLoaded => cases h
  | setMode m => cases h
  | endSession => cases h
  | countRefresh m => cases h
  | store d => cases h

theorem mem_wireActions_common {a : Action} {w : WireCommand} (h : a ∈ wireActions w) : a.common = true := by
  simp only [wireActions, List.mem_cons, List.mem_map] at h
  rcases h with rfl | ⟨b, _, rfl⟩ <;> rfl

theorem wires_common {ws : List WireCommand} {a : Action} (h : a ∈ ws.flatMap wireActions) : a.common = true := by
  obtain ⟨w, _, hw⟩ := List.mem_flatMap.1 h
  exact mem_wireActions_common hw

theorem mem_frameActions_common {a : Action} {w : WireCommand} (h : a ∈ frameActions w) : a.common = true := by
  simp only [frameActions, List.mem_cons, List.not_mem_nil, or_false] at h
  rcases h with rfl | rfl <;> rfl

theorem mem_setWindowActions_common {a : Action} {w : Window} (h : a ∈ setWindowActions w) : a.common = true := by
  rcases List.mem_append.1 h with h | h <;> exact mem_wireActions_common h

theorem mem_setCursorActions_common {a : Action} {x y} (h : a ∈ setCursorActions x y) : a.common = true := by
  rcases List.mem_append.1 h with h | h <;> exact mem_wireActions_common h

theorem mem_loadLutActions {a : Action} {c : Config} (h : a ∈ loadLutActions c) :
    a.common = true ∨ a = .markLutLoaded := by
  simp only [loadLutActions, List.mem_append] at h
  rcases h with (((h | h) | h) | h) | h
  · exact .inl (mem_wireActions_common h)
  · exact .inl (mem_wireActions_common h)
  · exact .inl (mem_wireActions_common h)
  · exact .inl (mem_wireActions_common h)
  · exact .inr (List.mem_singleton.1 h)

theorem mem_triggerActions_common {a : Action} {m : Mode} (h : a ∈ triggerActions m) : a.common = true := by
  simp only [triggerActions, List.mem_append] at h
  rcases h with ((h | h) | h) | h
  · rw [List.mem_singleton.1 h]; rfl
  · exact mem_wireActions_common h
  · exact mem_wireActions_common h
  · rw [List.mem_singleton.1 h]; rfl

theorem mem_sleepActions {a : Action} {c : Config} (h : a ∈ sleepActions c) : a.common = true ∨ a = .endSession := by
  simp only [sleepActions, List.mem_append] at h
  rcases h with h | h
  · exact .inl (mem_wireActions_common h)
  · simp only [List.mem_cons, List.not_mem_nil, or_false] at h
    rcases h with rfl | rfl
    · exact .inl rfl
    · exact .inr rfl

theorem mem_commonRegsActions_common {a : Action} {c : Config} {b : Border} (h : a ∈ commonRegsActions c b) :
    a.common = true := by
  simp only [commonRegsActions, List.mem_append] at h
  rcases h with (((((h | h) | h) | h) | h) | h) | h
  · exact mem_wireActions_common h
  · exact mem_wireActions_common h
  · exact mem_wireActions_common h
  · exact mem_wireActions_common h
  · exact mem_wireActions_common h
  · exact mem_setWindowActions_common h
  · exact mem_setCursorActions_common h

theorem mem_initActions {a : Action} {c : Config} {loaded : Bool} {m : Mode} (h : a ∈ initActions c loaded m) :
    a.common = true ∨ a = .acquire ∨ (a = .markLutLoaded ∧ m = .grayscale) ∨ a = .setMode m := by
  simp only [initActions, List.mem_append] at h
  rcases h with (((((h | h) | h) | h) | h) | h) | h
  · simp only [List.mem_cons, List.not_mem_nil, or_false] at h
    rcases h with rfl | rfl | rfl
    · exact .inr (.inl rfl)
    · exact .inl rfl
    · exact .inl rfl
  · split at h
    · rcases List.mem_append.1 h with h | h
      · exact .inl (mem_wireActions_common h)
      · rw [List.mem_singleton.1 h]; exact .inl rfl
    · cases h
  · exact .inl (mem_commonRegsActions_common h)
  · rw [List.mem_singleton.1 h]; exact .inl rfl
  · split at h
    · simp only [fastFlagActions, List.mem_append] at h
      rcases h with (h | h) | h
      · exact .inl (mem_wireActions_common h)
      · exact .inl (mem_wireActions_common h)
      · rw [List.mem_singleton.1 h]; exact .inl rfl
    · cases h
  · split at h
    · rename_i hm
      rcases List.mem_append.1 h with h | h
      · rcases mem_loadLutActions h with h | h
        · exact .inl h
        · refine .inr (.inr (.inl ⟨h, ?_⟩))
          cases m <;> simp [modeRecord] at hm ⊢
      · rw [List.mem_singleton.1 h]; exact .inl rfl
    · cases h
  · exact .inr (.inr (.inr (List.mem_singleton.1 h)))

theorem mem_refreshActions {a : Action} {c : Config} {loaded : Bool} {m : Mode} {buf : List Byte}
    (h : a ∈ refreshActions c loaded m buf) :
    a.common = true ∨ a = .acquire ∨ (a = .markLutLoaded ∧ m = .grayscale) ∨ a = .setMode m ∨ a = .countRefresh m := by
  simp only [refreshActions, List.mem_append] at h
  rcases h with ((h | h) | h) | h
  · rcases mem_initActions h with h | h | h | h
    · exact .inl h
    · exact .inr (.inl h)
    · exact .inr (.inr (.inl h))
    · exact .inr (.inr (.inr (.inl h)))
  · cases m with
    | grayscale => rcases List.mem_append.1 h with h | h <;> exact .inl (mem_frameActions_common h)
    | full => exact .inl (mem_frameActions_common h)
    | fast => exact .inl (mem_frameActions_common h)
    | part => exact .inl (mem_frameActions_common h)
  · exact .inl (mem_triggerActions_common h)
  · exact .inr (.inr (.inr (.inr (List.mem_singleton.1 h))))

theorem selectMode_cases (s : State) (m : Mode) (pp : Bool) :
    (selectMode s m pp = .part ∧ pp = true ∧ s.prc < s.cfg.partialLimit) ∨ selectMode s m pp = m := by
  unfold selectMode
  split
  · rename_i h
    simp only [Bool.and_eq_true, decide_eq_true_eq] at h
    exact .inl ⟨rfl, h.1, h.2⟩
  · exact .inr rfl

/-- The steps of a refresh, by the flags of the operation that asked for it. -/
theorem mem_refresh_flags {i : Instr} {m : Mode} {buf : List Byte} {pp : Bool} {s : State} {a : Action}
    (hi : (writesMode i && setsBus i && writesCount i) = true) (hm : m = .grayscale → setsLut i = true)
    (h : a ∈ refreshActions s.cfg s.lutLoaded (selectMode s m pp) buf) :
    a.common = true ∨ (a = .acquire ∧ setsBus i = true) ∨ (a = .markLutLoaded ∧ setsLut i = true) ∨
    ((∃ m, a = .setMode m) ∧ writesMode i = true) ∨ (a = .endSession ∧ i = .sleep) ∨
    ((∃ m, a = .countRefresh m) ∧ writesCount i = true) ∨ ((∃ d, a = .store d) ∧ isUpdate i = true) := by
  simp only [Bool.and_eq_true] at hi
  rcases mem_refreshActions h with h | h | ⟨h, hg⟩ | h | h
  · exact .inl h
  · exact .inr (.inl ⟨h, hi.1.2⟩)
  · refine .inr (.inr (.inl ⟨h, hm ?_⟩))
    rcases selectMode_cases s m pp with ⟨hp, _⟩ | hp
    · rw [hp] at hg; cases hg
    · rw [hp] at hg; exact hg
  · exact .inr (.inr (.inr (.inl ⟨⟨_, h⟩, hi.1.1⟩)))
  · exact .inr (.inr (.inr (.inr (.inr (.inl ⟨⟨_, h⟩, hi.2⟩)))))

/-- The steps of an UPDATE are those of its refresh and the store. -/
theorem mem_planUpdate {m : Mode} {img : Raster} {pp force : Bool} {s : State} {a : Action}
    (h : a ∈ (planUpdate m img pp force s).actions) :
    (∃ buf, a ∈ refreshActions s.cfg s.lutLoaded (selectMode s m pp) buf) ∨ ∃ d, a = .store d := by
  simp only [planUpdate] at h
  split at h
  · rcases List.mem_append.1 h with h | h
    · exact .inl ⟨_, h⟩
    · exact .inr ⟨_, List.mem_singleton.1 h⟩
  · cases h

/-- Which operations take which step. -/
theorem mem_plan {i : Instr} {s : State} {a : Action} (h : a ∈ (plan i s).actions) :
    a.common = true ∨ (a = .acquire ∧ setsBus i = true) ∨ (a = .markLutLoaded ∧ setsLut i = true) ∨
    ((∃ m, a = .setMode m) ∧ writesMode i = true) ∨ (a = .endSession ∧ i = .sleep) ∨
    ((∃ m, a = .countRefresh m) ∧ writesCount i = true) ∨ ((∃ d, a = .store d) ∧ isUpdate i = true) := by
  have single : ∀ {b : Action}, a ∈ [b] → b.common = true → a.common = true := by
    intro b h hb; rw [List.mem_singleton.1 h]; exact hb
  cases i
  case encMono => cases h
  case encGray => cases h
  case repack => cases h
  case fpCompute => cases h
  case shouldUpdate => cases h
  case reset =>
    simp only [plan, planSteps, List.mem_cons, List.not_mem_nil, or_false] at h
    rcases h with rfl | rfl
    · exact .inr (.inl ⟨rfl, rfl⟩)
    · exact .inl rfl
  case waitIdle => exact .inl (single h rfl)
  case sendCmd => exact .inl (single h rfl)
  case sendData => exact .inl (single h rfl)
  case sendBulk => exact .inl (single h rfl)
  case setWindow => exact .inl (mem_setWindowActions_common h)
  case setCursor => exact .inl (mem_setCursorActions_common h)
  case loadLut =>
    rcases mem_loadLutActions h with h | h
    · exact .inl h
    · exact .inr (.inr (.inl ⟨h, rfl⟩))
  case sleep =>
    rcases mem_sleepActions h with h | h
    · exact .inl h
    · exact .inr (.inr (.inr (.inr (.inl ⟨h, rfl⟩))))
  case triggerFull => exact .inl (mem_triggerActions_common h)
  case triggerFast => exact .inl (mem_triggerActions_common h)
  case triggerPartial => exact .inl (mem_triggerActions_common h)
  case triggerGrayscale => exact .inl (mem_triggerActions_common h)
  case wireWriteBwRamPlane1 => exact .inl (mem_frameActions_common h)
  case wireWriteBwRamPlane2 => exact .inl (mem_frameActions_common h)
  case initFull =>
    rcases mem_initActions h with h | h | h | h
    · exact .inl h
    · exact .inr (.inl ⟨h, rfl⟩)
    · cases h.2
    · exact .inr (.inr (.inr (.inl ⟨⟨_, h⟩, rfl⟩)))
  case initFast =>
    rcases mem_initActions h with h | h | h | h
    · exact .inl h
    · exact .inr (.inl ⟨h, rfl⟩)
    · cases h.2
    · exact .inr (.inr (.inr (.inl ⟨⟨_, h⟩, rfl⟩)))
  case initPartial =>
    rcases mem_initActions h with h | h | h | h
    · exact .inl h
    · exact .inr (.inl ⟨h, rfl⟩)
    · cases h.2
    · exact .inr (.inr (.inr (.inl ⟨⟨_, h⟩, rfl⟩)))
  case initGrayscale =>
    rcases mem_initActions h with h | h | h | h
    · exact .inl h
    · exact .inr (.inl ⟨h, rfl⟩)
    · exact .inr (.inr (.inl ⟨h.1, rfl⟩))
    · exact .inr (.inr (.inr (.inl ⟨⟨_, h⟩, rfl⟩)))
  case refreshFull => exact mem_refresh_flags rfl (by simp) h
  case refreshFast => exact mem_refresh_flags rfl (by simp) h
  case refreshGrayscale => exact mem_refresh_flags rfl (by exact fun _ => rfl) h
  case updateFull =>
    rcases mem_planUpdate h with ⟨_, h⟩ | h
    · exact mem_refresh_flags rfl (by simp) h
    · exact .inr (.inr (.inr (.inr (.inr (.inr ⟨h, rfl⟩)))))
  case updateFast =>
    rcases mem_planUpdate h with ⟨_, h⟩ | h
    · exact mem_refresh_flags rfl (by simp) h
    · exact .inr (.inr (.inr (.inr (.inr (.inr ⟨h, rfl⟩)))))
  case updateGrayscale =>
    rcases mem_planUpdate h with ⟨_, h⟩ | h
    · exact mem_refresh_flags rfl (by exact fun _ => rfl) h
    · exact .inr (.inr (.inr (.inr (.inr (.inr ⟨h, rfl⟩)))))
  all_goals exact .inl (mem_wireActions_common h)

end Sys2Proof.Machine
end

