-- ==== Sys2Proof/Laws/PerInstr.lean ====
section
/-! SUPPORT. Statements made per instruction. Family `DecodeEncode`: decoding the request an instruction is encoded as gives
that instruction, with every operand at every value (30_encoding.md R70 to R72, R80). -/

namespace Sys2Proof.Laws

/-- The request of `i` decodes to `i`. -/
def DecodeEncode.Statement (i : Instr) : Prop :=
  decodeRequest (encode i) = some (.instr i)

theorem DecodeEncode.encMono (img : Raster) : DecodeEncode.Statement (.encMono img) := rfl
theorem DecodeEncode.encGray (img : Raster) : DecodeEncode.Statement (.encGray img) := rfl
theorem DecodeEncode.repack (g : List Byte) : DecodeEncode.Statement (.repack g) := rfl
theorem DecodeEncode.reset : DecodeEncode.Statement (.reset) := rfl
theorem DecodeEncode.waitIdle (poll : Option Nat) : DecodeEncode.Statement (.waitIdle poll) := rfl
theorem DecodeEncode.sendCmd (op : Byte) : DecodeEncode.Statement (.sendCmd op) := rfl
theorem DecodeEncode.sendData (b : Byte) : DecodeEncode.Statement (.sendData b) := rfl
theorem DecodeEncode.sendBulk (bs : List Byte) : DecodeEncode.Statement (.sendBulk bs) := rfl
theorem DecodeEncode.setWindow (x0 : BitVec 10) (y0 : BitVec 16) (x1 : BitVec 10) (y1 : BitVec 16) : DecodeEncode.Statement (.setWindow x0 y0 x1 y1) := rfl
theorem DecodeEncode.setCursor (x : BitVec 10) (y : BitVec 16) : DecodeEncode.Statement (.setCursor x y) := rfl
theorem DecodeEncode.loadLut : DecodeEncode.Statement (.loadLut) := rfl
theorem DecodeEncode.initFull : DecodeEncode.Statement (.initFull) := rfl
theorem DecodeEncode.initFast : DecodeEncode.Statement (.initFast) := rfl
theorem DecodeEncode.initPartial : DecodeEncode.Statement (.initPartial) := rfl
theorem DecodeEncode.initGrayscale : DecodeEncode.Statement (.initGrayscale) := rfl
theorem DecodeEncode.triggerFull : DecodeEncode.Statement (.triggerFull) := rfl
theorem DecodeEncode.triggerFast : DecodeEncode.Statement (.triggerFast) := rfl
theorem DecodeEncode.triggerPartial : DecodeEncode.Statement (.triggerPartial) := rfl
theorem DecodeEncode.triggerGrayscale : DecodeEncode.Statement (.triggerGrayscale) := rfl
theorem DecodeEncode.sleep : DecodeEncode.Statement (.sleep) := rfl
theorem DecodeEncode.refreshFull (buf : List Byte) (preferPartial : Bool) : DecodeEncode.Statement (.refreshFull buf preferPartial) := rfl
theorem DecodeEncode.refreshFast (buf : List Byte) (preferPartial : Bool) : DecodeEncode.Statement (.refreshFast buf preferPartial) := rfl
theorem DecodeEncode.refreshGrayscale (buf : List Byte) (preferPartial : Bool) : DecodeEncode.Statement (.refreshGrayscale buf preferPartial) := rfl
theorem DecodeEncode.fpCompute (img : Raster) : DecodeEncode.Statement (.fpCompute img) := rfl
theorem DecodeEncode.shouldUpdate (fp : Digest) (force : Bool) : DecodeEncode.Statement (.shouldUpdate fp force) := rfl
theorem DecodeEncode.updateFull (img : Raster) (preferPartial force : Bool) : DecodeEncode.Statement (.updateFull img preferPartial force) := rfl
theorem DecodeEncode.updateFast (img : Raster) (preferPartial force : Bool) : DecodeEncode.Statement (.updateFast img preferPartial force) := rfl
theorem DecodeEncode.updateGrayscale (img : Raster) (preferPartial force : Bool) : DecodeEncode.Statement (.updateGrayscale img preferPartial force) := rfl
theorem DecodeEncode.wireDriverOutputControl : DecodeEncode.Statement (.wireDriverOutputControl) := rfl
theorem DecodeEncode.wireDataEntryMode : DecodeEncode.Statement (.wireDataEntryMode) := rfl
theorem DecodeEncode.wireResetDeepSleep : DecodeEncode.Statement (.wireResetDeepSleep) := rfl
theorem DecodeEncode.wireSetRamXWindow (x0 x1 : BitVec 10) : DecodeEncode.Statement (.wireSetRamXWindow x0 x1) := rfl
theorem DecodeEncode.wireSetRamYWindow (y0 y1 : BitVec 16) : DecodeEncode.Statement (.wireSetRamYWindow y0 y1) := rfl
theorem DecodeEncode.wireBorderWaveform (b : Border) : DecodeEncode.Statement (.wireBorderWaveform b) := rfl
theorem DecodeEncode.wireBoosterSoftStart : DecodeEncode.Statement (.wireBoosterSoftStart) := rfl
theorem DecodeEncode.wireTempSensorSelect : DecodeEncode.Statement (.wireTempSensorSelect) := rfl
theorem DecodeEncode.wireSetRamXAddrCounter (x : BitVec 10) : DecodeEncode.Statement (.wireSetRamXAddrCounter x) := rfl
theorem DecodeEncode.wireSetRamYAddrCounter (y : BitVec 16) : DecodeEncode.Statement (.wireSetRamYAddrCounter y) := rfl
theorem DecodeEncode.wireDisplayUpdateControl2 (ctl : UpdateControl) : DecodeEncode.Statement (.wireDisplayUpdateControl2 ctl) := rfl
theorem DecodeEncode.wireMasterActivation : DecodeEncode.Statement (.wireMasterActivation) := rfl
theorem DecodeEncode.wireWriteLutRegister : DecodeEncode.Statement (.wireWriteLutRegister) := rfl
theorem DecodeEncode.wireGateLineEnd : DecodeEncode.Statement (.wireGateLineEnd) := rfl
theorem DecodeEncode.wireGateDrivingVoltage : DecodeEncode.Statement (.wireGateDrivingVoltage) := rfl
theorem DecodeEncode.wireVcomRegister : DecodeEncode.Statement (.wireVcomRegister) := rfl
theorem DecodeEncode.wireWriteBwRamPlane1 (bs : List Byte) : DecodeEncode.Statement (.wireWriteBwRamPlane1 bs) := rfl
theorem DecodeEncode.wireWriteBwRamPlane2 (bs : List Byte) : DecodeEncode.Statement (.wireWriteBwRamPlane2 bs) := rfl
theorem DecodeEncode.wireDeepSleep : DecodeEncode.Statement (.wireDeepSleep) := rfl

end Sys2Proof.Laws
end

