-- ==== Sys2Proof/Laws/Runs.lean ====
section
/-! SUPPORT. How a list of steps ends: the state of the sequencer after one that was done, and which step raised. -/
namespace Sys2Proof.Machine

/-! ### How a list of steps ends -/

/-- `S.st` after a step that was done. -/
def stAfterAction (a : Action) (v : St) : St :=
  match a with
  | .resetPulse => .awaitingBusyClear
  | .waitIdle _ => .ready
  | .beginTrigger => .triggeringRefresh
  | .endSession => .sleeping
  | .acquire | .sendCmd _ | .sendData _ | .sendBulk _ | .markLutLoaded | .setMode _ | .delay _ | .countRefresh _
  | .store _ => v

/-- `S.st` after a list of steps that was done. -/
def stAfter (as : List Action) (v : St) : St :=
  as.foldl (fun v a => stAfterAction a v) v

theorem send_done_st {d : St} {l : Level} {bs : List Byte} {s t : State} (h : send d l bs s = .done t) :
    t.st = s.st := by
  unfold send at h
  split at h <;> cases h
  rfl

theorem pollLoop_done_st {poll more n : Nat} {s t : State} (h : pollLoop poll more n s = .done t) : t.st = .ready := by
  induction more generalizing n s with
  | zero => unfold pollLoop at h; split at h <;> cases h; rfl
  | succ k ih =>
    unfold pollLoop at h
    split at h
    · cases h; rfl
    · exact ih h

theorem runAction_done_st {a : Action} {s t : State} (h : runAction a s = .done t) : t.st = stAfterAction a s.st := by
  cases a with
  | acquire =>
    simp only [runAction] at h; unfold acquire at h
    split_ifs at h <;> cases h
    · rfl
    · simp [stAfterAction]
  | waitIdle poll => exact pollLoop_done_st h
  | sendCmd op => exact send_done_st h
  | sendData b => exact send_done_st h
  | sendBulk bs => exact send_done_st h
  | countRefresh m => cases m <;> cases h <;> rfl
  | resetPulse => cases h; rfl
  | beginTrigger => cases h; rfl
  | markLutLoaded => cases h; rfl
  | setMode m => cases h; rfl
  | delay n => cases h; rfl
  | endSession => cases h; rfl
  | store d => cases h; rfl

/-- `S.st` at the end of a body that was done (R24). -/
theorem runAll_done_st {as : List Action} {s t : State} (h : runAll as s = .done t) : t.st = stAfter as s.st := by
  induction as generalizing s with
  | nil => cases h; rfl
  | cons a as ih =>
    cases hr : runAction a s with
    | raised e u => rw [runAll_cons_raised hr] at h; cases h
    | done u =>
      rw [runAll_cons_done hr] at h
      rw [ih h, runAction_done_st hr]
      rfl

@[simp] theorem stAfter_nil (v : St) : stAfter [] v = v := rfl
@[simp] theorem stAfter_append (as bs : List Action) (v : St) : stAfter (as ++ bs) v = stAfter bs (stAfter as v) := by
  simp [stAfter]

@[simp] theorem stAfter_wire (w : WireCommand) (v : St) : stAfter (wireActions w) v = v := by
  have : ∀ bs : List Byte, stAfter (bs.map .sendData) v = v := by
    intro bs
    induction bs with
    | nil => rfl
    | cons b bs ih => exact ih
  exact this w.payload

@[simp] theorem stAfter_frame (w : WireCommand) (v : St) : stAfter (frameActions w) v = v := rfl

@[simp] theorem stAfter_init (c : Config) (loaded : Bool) (m : Mode) (v : St) :
    stAfter (initActions c loaded m) v = .ready := by
  cases m <;> cases loaded <;>
    simp [initActions, modeRecord, fastFlagActions, loadLutActions, stAfter, stAfterAction]

@[simp] theorem stAfter_trigger (m : Mode) (v : St) : stAfter (triggerActions m) v = .ready := by
  simp only [triggerActions, stAfter_append]
  rfl

@[simp] theorem stAfter_refresh (c : Config) (loaded : Bool) (m : Mode) (buf : List Byte) (v : St) :
    stAfter (refreshActions c loaded m buf) v = .ready := by
  simp only [refreshActions, stAfter_append, stAfter_init, stAfter_trigger]
  rfl

/-- A body that raises: some step raised, the steps before it were done, none after it ran (R9, R259). -/
theorem runAll_raised_cases {as : List Action} {s t : State} {e : Raise} (h : runAll as s = .raised e t) :
    ∃ pre a post u, as = pre ++ a :: post ∧ runAll pre s = .done u ∧ runAction a u = .raised e t := by
  induction as generalizing s with
  | nil => cases h
  | cons a as ih =>
    cases hr : runAction a s with
    | raised e' u =>
      rw [runAll_cons_raised hr] at h; cases h
      exact ⟨[], a, as, s, rfl, rfl, hr⟩
    | done u =>
      rw [runAll_cons_done hr] at h
      obtain ⟨pre, b, post, u', h1, h2, h3⟩ := ih h
      exact ⟨a :: pre, b, post, u', by rw [h1]; rfl, by rw [runAll_cons_done hr, h2], h3⟩

theorem pollLoop_raised {poll more n : Nat} {s t : State} {e : Raise} (h : pollLoop poll more n s = .raised e t) :
    e = .deviceNotResponding (n + more + 1) ∧ ∃ evs, t.trace = s.trace ++ evs ++ [.readBusy .l1] := by
  induction more generalizing n s with
  | zero =>
    unfold pollLoop at h
    split at h
    · cases h
    · rename_i hb
      cases h
      refine ⟨rfl, [], ?_⟩
      have : busyLevel s = .l1 := by
        cases hl : busyLevel s
        · exact absurd hl hb
        · rfl
      simp [this]
  | succ k ih =>
    unfold pollLoop at h
    split at h
    · cases h
    · obtain ⟨h1, evs, h2⟩ := ih h
      refine ⟨h1.trans (by congr 1; omega), [.readBusy (busyLevel s), .delay poll] ++ evs, ?_⟩
      rw [h2]; simp

theorem send_raised {d : St} {l : Level} {bs : List Byte} {s t : State} {e : Raise} (h : send d l bs s = .raised e t) :
    e = .busTransaction l bs ∧ t.pinCs = some .l0 ∧ t.pinDc = some l ∧ t.trace = s.trace ++ evFailed l bs := by
  cases hs : spiSucceeds s with
  | true => rw [send_ok d l bs s hs] at h; cases h
  | false => rw [send_fail d l bs s hs] at h; cases h; exact ⟨rfl, rfl, rfl, rfl⟩

/-- Which step can raise which error, and the trace it leaves (R251 to R253). -/
theorem runAction_raised {a : Action} {s t : State} {e : Raise} (h : runAction a s = .raised e t) :
    (a = .acquire ∧ s.busHeld = false ∧ modInitStatus s ≠ 0 ∧ e = .hardwareInit (modInitStatus s) ∧ t = modInitCall s) ∨
    (∃ poll, a = .waitIdle poll ∧ e = .deviceNotResponding (busyMaxPolls s.cfg) ∧
      ∃ evs, t.trace = s.trace ++ evs ++ [.readBusy .l1]) ∨
    (∃ l bs, ((l = .l0 ∧ ∃ b, a = .sendCmd b ∧ bs = [b]) ∨ (l = .l1 ∧ ∃ b, a = .sendData b ∧ bs = [b]) ∨
        (l = .l1 ∧ a = .sendBulk bs)) ∧
      e = .busTransaction l bs ∧ t.pinCs = some .l0 ∧ t.pinDc = some l ∧ t.trace = s.trace ++ evFailed l bs) := by
  cases a with
  | acquire =>
    simp only [runAction] at h
    by_cases hb : busTakes s
    · rw [acquire_ok s hb] at h; cases h
    · rw [acquire_fail s hb] at h; cases h
      refine .inl ⟨rfl, ?_, fun hm => hb (.inr hm), rfl, rfl⟩
      cases hh : s.busHeld
      · rfl
      · exact absurd (.inl hh) hb
  | waitIdle poll =>
    obtain ⟨h1, h2⟩ := pollLoop_raised h
    refine .inr (.inl ⟨poll, rfl, h1.trans ?_, h2⟩)
    simp [busyMaxPolls]
  | sendCmd op => exact .inr (.inr ⟨_, _, .inl ⟨rfl, _, rfl, rfl⟩, send_raised h⟩)
  | sendData b => exact .inr (.inr ⟨_, _, .inr (.inl ⟨rfl, _, rfl, rfl⟩), send_raised h⟩)
  | sendBulk bs => exact .inr (.inr ⟨_, _, .inr (.inr ⟨rfl, rfl⟩), send_raised h⟩)
  | resetPulse => cases h
  | beginTrigger => cases h
  | markLutLoaded => cases h
  | setMode m => cases h
  | delay n => cases h
  | endSession => cases h
  | countRefresh m => cases h
  | store d => cases h

end Sys2Proof.Machine
end

