-- ==== Sys2Proof/Laws/Sequences.lean ====
section
/-! SUPPORT. The wire commands of the model as the spec lists them, and the initialisations as blocks: some wire commands,
then a busy wait. -/

namespace Sys2Proof.Machine

/-! ### The commands as listed -/

theorem lo8_eq_byteLow {n : Nat} (x : BitVec n) : lo8 x = byteLow x.toNat := by
  apply BitVec.eq_of_toNat_eq
  simp [lo8, byteLow]

theorem hi8_eq_byteHigh {n : Nat} (x : BitVec n) : hi8 x = byteHigh x.toNat := by
  apply BitVec.eq_of_toNat_eq
  have : x.toNat / 256 < 2 ^ n := Nat.lt_of_le_of_lt (Nat.div_le_self _ _) x.isLt
  simp [hi8, byteHigh, Nat.shiftRight_eq_div_pow]

theorem hi2_eq_byteHigh (x : BitVec 10) : hi2 x = byteHigh x.toNat := by
  revert x
  decide +kernel

theorem cmdXWindow_eq (a b : BitVec 10) : cmdXWindow a b = listXWindow a.toNat b.toNat := by
  simp only [cmdXWindow, lo8_eq_byteLow, hi2_eq_byteHigh]
  rfl

theorem cmdYWindow_eq (a b : BitVec 16) : cmdYWindow a b = listYWindow a.toNat b.toNat := by
  simp only [cmdYWindow, lo8_eq_byteLow, hi8_eq_byteHigh]
  rfl

theorem cmdXCounter_eq (a : BitVec 10) : cmdXCounter a = listXCounter a.toNat := by
  simp only [cmdXCounter, lo8_eq_byteLow, hi2_eq_byteHigh]
  rfl

theorem cmdYCounter_eq (a : BitVec 16) : cmdYCounter a = listYCounter a.toNat := by
  simp only [cmdYCounter, lo8_eq_byteLow, hi8_eq_byteHigh]
  rfl

theorem toNat_heightField (c : Config) : (BitVec.ofNat 16 (height c - 1)).toNat = height c - 1 := by
  have := c.rows.isLt
  simp [height]

theorem toNat_widthField (c : Config) : (BitVec.ofNat 10 (width c - 1)).toNat = width c - 1 := by
  have := c.cols.isLt
  simp [width]
  omega

theorem cmdDriverOutput_eq (c : Config) :
    cmdDriverOutput c = ⟨0x01, [byteLow (height c - 1), byteHigh (height c - 1), 0x02]⟩ := by
  simp only [cmdDriverOutput, heightField, lo8_eq_byteLow, hi8_eq_byteHigh, toNat_heightField]
  rfl

theorem lutSlice_one (c : Config) (i : Nat) (h : i < 110) : lutSlice c i (i + 1) = [c.lut[i]] := by
  unfold lutSlice
  rw [List.drop_eq_getElem_cons (by simpa using h)]
  simp

theorem cmdLut_eq (c : Config) : cmdLut c = ⟨0x32, c.lut.toList.take 105⟩ := rfl

theorem cmdGateLineEnd_eq (c : Config) : cmdGateLineEnd c = ⟨0x03, [c.lut[105]]⟩ := by
  simp only [cmdGateLineEnd, lutSlice_one c 105 (by decide)]
  rfl

theorem cmdGateVoltage_eq (c : Config) : cmdGateVoltage c = ⟨0x04, [c.lut[106], c.lut[107], c.lut[108]]⟩ := by
  have : lutSlice c 106 109 = [c.lut[106], c.lut[107], c.lut[108]] := by
    unfold lutSlice
    rw [List.drop_eq_getElem_cons (by simp), List.drop_eq_getElem_cons (by simp), List.drop_eq_getElem_cons (by simp)]
    simp
  simp only [cmdGateVoltage, this]
  rfl

theorem cmdVcom_eq (c : Config) : cmdVcom c = ⟨0x2C, [c.lut[109]]⟩ := by
  simp only [cmdVcom, lutSlice_one c 109 (by decide)]
  rfl

theorem commonRegsActions_eq (c : Config) (b : Border) :
    commonRegsActions c b = (listRegs c (borderByte b)).flatMap wireActions := by
  simp only [commonRegsActions, setWindowActions, setCursorActions, winFull, curFullX, curFullY, cmdXWindow_eq,
    cmdYWindow_eq, cmdXCounter_eq, cmdYCounter_eq, toNat_heightField, toNat_widthField, cmdDriverOutput_eq]
  simp only [listRegs, List.flatMap_cons, List.flatMap_nil, List.append_nil, List.append_assoc]
  rfl

theorem loadLutActions_eq (c : Config) :
    loadLutActions c = (listLut c).flatMap wireActions ++ [.markLutLoaded] := by
  simp only [loadLutActions, cmdLut_eq, cmdGateLineEnd_eq, cmdGateVoltage_eq, cmdVcom_eq]
  simp [listLut]

theorem triggerActions_eq (m : Mode) :
    triggerActions m = [.beginTrigger] ++ (listTrigger m).flatMap wireActions ++ [.waitIdle 20] := by
  cases m <;> rfl

/-! ### Blocks -/

/-- A wait that meets idle after `n` busy samples, within the bound. -/
def waitMeetsIdle (n : Nat) (s : State) : Prop :=
  n + 1 ≤ busyMaxPolls s.cfg ∧ oracleAnswers Config.freeBusy (n + 1) s.busy = List.replicate n .l1 ++ [.l0]

/-- Wire commands, of which the last is named, perhaps the table mark, and a busy wait. -/
structure Block where
  cmds : List WireCommand
  last : WireCommand
  mark : Bool

/-- The commands of a block. -/
def Block.all (b : Block) : List WireCommand := b.cmds ++ [b.last]

/-- The number of transfers of a block. -/
def Block.transfers (b : Block) : Nat := (itemList b.all).length

/-- The steps of a block. -/
def Block.actions (b : Block) : List Action :=
  b.all.flatMap wireActions ++ ((if b.mark then [.markLutLoaded] else []) ++ [.waitIdle 20])

/-- The state after a block whose transfers succeed and whose wait meets idle after `n` busy samples. -/
def Block.after (b : Block) (n : Nat) (s : State) : State :=
  { s with
    st := .ready
    lutLoaded := b.mark || s.lutLoaded
    trace := s.trace ++ evCommands b.all ++ evWait 20 n
    pinDc := some (commandDc b.last)
    pinCs := some .l1
    busy := oracleSkip (n + 1) s.busy
    spi := oracleSkip b.transfers s.spi }

theorem runAction_waitIdle_ok {poll n : Nat} {s : State} (h : waitMeetsIdle n s) :
    runAction (.waitIdle poll) s = .done { s with
      st := .ready
      trace := s.trace ++ evWait poll n
      busy := oracleSkip (n + 1) s.busy } :=
  waitIdle_ok poll n s h.1 h.2

theorem runAll_block (b : Block) (n : Nat) (s : State) (h : transfersSucceed b.transfers s) (hw : waitMeetsIdle n s) :
    runAll b.actions s = .done (b.after n s) := by
  unfold Block.actions Block.all
  rw [runAll_append_done (runAll_commands_ok b.cmds b.last s h)]
  have hw' : ∀ k l e, waitMeetsIdle n (sent k l e s) := fun _ _ _ => hw
  have hm' : ∀ k l e, waitMeetsIdle n (markLutLoaded (sent k l e s)) := fun _ _ _ => hw
  cases hm : b.mark with
  | false =>
    simp only [Bool.false_eq_true, if_false, List.nil_append]
    rw [runAll_cons_done (runAction_waitIdle_ok (hw' _ _ _))]
    simp [Block.after, sent, hm, Block.all, Block.transfers]
  | true =>
    simp only [if_true, List.singleton_append]
    rw [runAll_cons_done (a := .markLutLoaded) rfl, runAll_cons_done (runAction_waitIdle_ok (hm' _ _ _))]
    simp [Block.after, sent, hm, Block.all, Block.transfers, markLutLoaded]

/-- The state after several blocks. -/
def Block.afterAll : List Block → List Nat → State → State
  | b :: bs, n :: ns, s => Block.afterAll bs ns (b.after n s)
  | _, _, s => s

/-- The first wait of several, and the others from any state in which it has been made. -/
theorem waitsMeetIdle_first {n : Nat} {ns : List Nat} {s : State} (h : waitsMeetIdle (n :: ns) s) : waitMeetsIdle n s :=
  (waitsMeetIdle_cons h).1

theorem waitsMeetIdle_rest {n : Nat} {ns : List Nat} {s t : State} (h : waitsMeetIdle (n :: ns) s) (hc : t.cfg = s.cfg)
    (hb : t.busy = oracleSkip (n + 1) s.busy) : waitsMeetIdle ns t :=
  (waitsMeetIdle_cons h).2 t hc hb

/-- Several blocks, every transfer succeeding and every wait meeting idle. -/
theorem runAll_blocks (bs : List Block) (ns : List Nat) (s : State) (hl : ns.length = bs.length)
    (h : transfersSucceed (bs.map Block.transfers).sum s) (hw : waitsMeetIdle ns s) :
    runAll (bs.flatMap Block.actions) s = .done (Block.afterAll bs ns s) := by
  induction bs generalizing ns s with
  | nil => cases ns with
    | nil => rfl
    | cons n ns => cases hl
  | cons b bs ih =>
    cases ns with
    | nil => cases hl
    | cons n ns =>
      rw [List.map_cons, List.sum_cons] at h
      have h2 := transfersSucceed_add h
      rw [List.flatMap_cons, runAll_append_done (runAll_block b n s h2.1 (waitsMeetIdle_first hw))]
      exact ih ns _ (by simpa using hl) (h2.2 .l0 []) (waitsMeetIdle_rest hw rfl rfl)

/-- The blocks of an initialisation after the reset pulse and its wait. -/
def initBlocks (c : Config) (m : Mode) (loaded : Bool) : List Block :=
  let reset : Block := ⟨[], ⟨0x12, []⟩, false⟩
  let regs (b : Byte) : Block := ⟨(listRegs c b).dropLast, listYCounter 0, false⟩
  let fast : Block := ⟨[⟨0x22, [0x91]⟩], ⟨0x20, []⟩, false⟩
  let lut : Block := ⟨(listLut c).dropLast, ⟨0x2C, [c.lut[109]]⟩, true⟩
  match m, loaded with
  | .full, _ => [reset, regs 0x01]
  | .fast, _ => [reset, regs 0x01, fast]
  | .part, _ => [regs 0x80]
  | .grayscale, true => [reset, regs 0x01, fast]
  | .grayscale, false => [reset, regs 0x01, fast, lut]

/-- An initialisation: the bus, the pulse and its wait, the blocks, the mode. -/
theorem initActions_eq_blocks (c : Config) (loaded : Bool) (m : Mode) :
    initActions c loaded m =
      [.acquire, .resetPulse, .waitIdle 20] ++ ((initBlocks c m loaded).flatMap Block.actions ++ [.setMode m]) := by
  cases m <;> cases loaded <;>
    simp [initActions, modeRecord, commonRegsActions_eq, loadLutActions_eq, fastFlagActions, initBlocks, Block.actions,
      Block.all, pollMs, listRegs, listLut, borderByte, cmdResetDeepSleep, opResetDeepSleep, cmdUpdateControl,
      opUpdateControl, updateControlByte, cmdMasterActivation, opMasterActivation]

theorem tookBus_keeps (s : State) :
    (tookBus s).cfg = s.cfg ∧ (tookBus s).st = s.st ∧ (tookBus s).mode = s.mode ∧ (tookBus s).lutLoaded = s.lutLoaded ∧
    (tookBus s).prc = s.prc ∧ (tookBus s).orchMode = s.orchMode ∧ (tookBus s).fp = s.fp ∧
    (tookBus s).fpValid = s.fpValid ∧ (tookBus s).busy = s.busy ∧ (tookBus s).spi = s.spi ∧
    (tookBus s).answer = s.answer ∧ (tookBus s).inbox = s.inbox := by
  unfold tookBus
  split <;> simp

/-- The state after the bus, the pulse and its wait. -/
def afterStart (n : Nat) (s : State) : State :=
  { tookBus s with
    st := .ready
    trace := (tookBus s).trace ++ evPulse ++ evWait 20 n
    pinRst := some .l1
    busy := oracleSkip (n + 1) s.busy }

/-- The bus, the pulse and its wait. -/
theorem runAll_start (n : Nat) (s : State) (hb : busTakes s) (hw : waitMeetsIdle n s) :
    runAll [.acquire, .resetPulse, .waitIdle 20] s = .done (afterStart n s) := by
  obtain ⟨hc, _, _, _, _, _, _, _, hy, _⟩ := tookBus_keeps s
  rw [runAll_cons_done (show runAction .acquire s = _ from acquire_ok s hb), runAll_cons_done (a := .resetPulse) rfl]
  have hw' : waitMeetsIdle n (resetPulse (tookBus s)) := by
    unfold waitMeetsIdle
    rw [resetPulse_cfg, resetPulse_busy, hc, hy]
    exact hw
  rw [runAll_cons_done (runAction_waitIdle_ok hw')]
  refine congrArg Run.done ?_
  ext1 <;> simp [afterStart, evPulse, hy]

/-- Several blocks after the start, from the premises at the state before it. -/
theorem runAll_start_blocks (n : Nat) (bs : List Block) (ns : List Nat) (s : State) (hb : busTakes s)
    (hl : ns.length = bs.length) (h : transfersSucceed (bs.map Block.transfers).sum s) (hw : waitsMeetIdle (n :: ns) s) :
    runAll ([.acquire, .resetPulse, .waitIdle 20] ++ bs.flatMap Block.actions) s =
      .done (Block.afterAll bs ns (afterStart n s)) := by
  obtain ⟨hc, _, _, _, _, _, _, _, _, hs, _⟩ := tookBus_keeps s
  rw [runAll_append_done (runAll_start n s hb (waitsMeetIdle_first hw))]
  refine runAll_blocks bs ns _ hl ?_ (waitsMeetIdle_rest hw hc rfl)
  unfold transfersSucceed
  rw [show (afterStart n s).spi = s.spi from hs]
  exact h

end Sys2Proof.Machine
end

