-- ==== Sys2Proof/Tests/Slice0.lean ====
section
/-! SUPPORT. Tests. Expected results are the vectors of spec/95_test_vectors.md (V<n>, S<n>, P<n>) or the encodings of
30_encoding.md; each names its source. At the end, for every statement with hypotheses, a state and operands that meet
them. -/

namespace Sys2Proof.Tests

set_option Elab.async false

open Sys2Proof Sys2Proof.Machine

/-! ### Benches -/

/-- `LUT[i] = i`, BUSY_MAX_POLLS = 3, SLEEP_DELAY_MS = 100, PARTIAL_LIMIT = 2 (V30, V44, V51, V70). -/
def cfg (cols : Fin 128) (rows : Fin 65536) : Config :=
  ⟨cols, rows, ⟨1, 2, 3, 4⟩, Vector.ofFn fun i => BitVec.ofNat 8 i.val, 2, 100, 2⟩

/-- W = 16, H = 2. -/
def cfg16 : Config := cfg 1 1
/-- W = 8, H = 2. -/
def cfg8 : Config := cfg 0 1
/-- W = 800, H = 480. -/
def cfg800 : Config := cfg 99 479

/-- Power-on with ENV as part 2 of the vectors has it: BUSY reads 0, no transfer fails, ModInit returns 0. -/
def fresh (c : Config) : State :=
  { State.reset with
    cfg := c
    busy := ⟨List.replicate 40 .l0, 0⟩
    spi := ⟨List.replicate 500 true, 0⟩
    modInit := ⟨[0, 0], 0⟩ }

/-- Ready, with the bus held. -/
def ready (c : Config) : State := { fresh c with st := .ready, busHeld := true }

/-- BUSY reads these levels. -/
def busyReads (ls : List Level) (s : State) : State := { s with busy := ⟨ls, 0⟩ }

/-- The transfer after `n` good ones fails. -/
def failsAfter (n : Nat) (s : State) : State := { s with spi := ⟨List.replicate n true ++ [false], 0⟩ }

/-- ModInit returns 7. -/
def noBus (s : State) : State := { s with modInit := ⟨[7], 0⟩ }

/-- The state an instruction ends in. -/
def ran (i : Instr) (s : State) : State :=
  match exec i s with
  | .next t => t
  | _ => s

theorem exec_ran (i : Instr) (s : State) : exec i s = .next (ran i s) := by
  simp [ran, exec_eq_runPlan]

/-- The wire commands of a trace. -/
def sentCommands (s : State) : List WireCommand := (cutItems (wire s.trace)).2

/-- The bytes an encoder answers. -/
def bytesOf (s : State) : List Byte :=
  match s.answer with
  | some (.ok (.bytes bs)) => bs
  | _ => []

def row (bits : List Nat) : List Byte := bits.map (BitVec.ofNat 8)

/-! ### Well-formedness: each check refuses a term (R41, R71) -/

theorem test_illFormed_pixel_count : (Instr.encMono ⟨2, 2, .one, [0, 1, 1]⟩).wellFormed = false := by decide
theorem test_illFormed_pixel_above_one : (Instr.updateFull ⟨1, 1, .one, [2]⟩ false false).wellFormed = false := by decide
theorem test_wellFormed_eight_bit : (Instr.fpCompute ⟨1, 1, .eight, [2]⟩).wellFormed = true := by decide
theorem test_illFormed_operand_faults :
    step { fresh cfg16 with inbox := [.op 0x84 { img := ⟨1, 1, .one, [2]⟩ }] } = .fault .operandOutsideType := by
  rfl

/-! ### Decoding: words written out from R70 (`1 opnum m`) and R80 -/

theorem test_decode_packer :
    decodeTableWord 8 0b1_00001_00 = some (.encMono ⟨0, 0, .one, []⟩) ∧
    decodeTableWord 8 0b1_00010_00 = some (.encGray ⟨0, 0, .one, []⟩) ∧
    decodeTableWord 8 0b1_00011_00 = some (.repack []) := by decide

theorem test_decode_bus :
    decodeTableWord 8 0b1_00100_00 = some .reset ∧ decodeTableWord 8 0b1_00101_00 = some (.waitIdle none) ∧
    decodeTableWord 8 0b1_00110_00 = some (.sendCmd 0) ∧ decodeTableWord 8 0b1_00111_00 = some (.sendData 0) ∧
    decodeTableWord 8 0b1_01000_00 = some (.sendBulk []) := by decide

theorem test_decode_registers :
    decodeTableWord 8 0b1_01001_00 = some (.setWindow 0 0 0 0) ∧ decodeTableWord 8 0b1_01010_00 = some (.setCursor 0 0) ∧
    decodeTableWord 8 0b1_01011_00 = some .loadLut ∧ decodeTableWord 8 0b1_01110_00 = some .sleep := by decide

theorem test_decode_modes :
    decodeTableWord 8 0b1_01100_00 = some .initFull ∧ decodeTableWord 8 0b1_01100_01 = some .initFast ∧
    decodeTableWord 8 0b1_01100_10 = some .initPartial ∧ decodeTableWord 8 0b1_01100_11 = some .initGrayscale ∧
    decodeTableWord 8 0b1_01101_00 = some .triggerFull ∧ decodeTableWord 8 0b1_01101_01 = some .triggerFast ∧
    decodeTableWord 8 0b1_01101_10 = some .triggerPartial ∧
    decodeTableWord 8 0b1_01101_11 = some .triggerGrayscale := by decide

theorem test_decode_policy :
    decodeTableWord 8 0b1_01111_00 = some (.refreshFull [] false) ∧
    decodeTableWord 8 0b1_01111_01 = some (.refreshFast [] false) ∧
    decodeTableWord 8 0b1_01111_11 = some (.refreshGrayscale [] false) ∧
    decodeTableWord 8 0b1_10000_00 = some (.fpCompute ⟨0, 0, .one, []⟩) ∧
    decodeTableWord 8 0b1_10001_00 = some (.shouldUpdate 0 false) ∧
    decodeTableWord 8 0b1_10010_00 = some (.updateFull ⟨0, 0, .one, []⟩ false false) ∧
    decodeTableWord 8 0b1_10010_01 = some (.updateFast ⟨0, 0, .one, []⟩ false false) ∧
    decodeTableWord 8 0b1_10010_11 = some (.updateGrayscale ⟨0, 0, .one, []⟩ false false) := by decide

theorem test_decode_wire :
    decodeTableWord 8 0b00000001 = some .wireDriverOutputControl ∧ decodeTableWord 8 0b00010001 = some .wireDataEntryMode ∧
    decodeTableWord 8 0b00010010 = some .wireResetDeepSleep ∧
    decodeTableWord 8 0b01000100 = some (.wireSetRamXWindow 0 0) ∧
    decodeTableWord 8 0b01000101 = some (.wireSetRamYWindow 0 0) ∧
    decodeTableWord 8 0b00111100 = some (.wireBorderWaveform .full) ∧
    decodeTableWord 8 0b00001100 = some .wireBoosterSoftStart ∧
    decodeTableWord 8 0b00011000 = some .wireTempSensorSelect ∧
    decodeTableWord 8 0b01001110 = some (.wireSetRamXAddrCounter 0) ∧
    decodeTableWord 8 0b01001111 = some (.wireSetRamYAddrCounter 0) := by decide

theorem test_decode_wire_rest :
    decodeTableWord 8 0b00100010 = some (.wireDisplayUpdateControl2 .actFull) ∧
    decodeTableWord 8 0b00100000 = some .wireMasterActivation ∧
    decodeTableWord 8 0b00110010 = some .wireWriteLutRegister ∧ decodeTableWord 8 0b00000011 = some .wireGateLineEnd ∧
    decodeTableWord 8 0b00000100 = some .wireGateDrivingVoltage ∧ decodeTableWord 8 0b00101100 = some .wireVcomRegister ∧
    decodeTableWord 8 0b00100100 = some (.wireWriteBwRamPlane1 []) ∧
    decodeTableWord 8 0b00100110 = some (.wireWriteBwRamPlane2 []) ∧
    decodeTableWord 8 0b00010000 = some .wireDeepSleep := by decide

/-- Table 2.6 of the vectors, and 0x24 as an op byte. -/
theorem test_decode_rejects :
    decodeOp 0x24 {} = .reject .bit7Clear ∧ decodeOp 0x7F {} = .reject .bit7Clear ∧
    decodeOp 0x80 {} = .reject .noSuchOpnum ∧ decodeOp 0xCC {} = .reject .noSuchOpnum ∧
    decodeOp 0xFF {} = .reject .noSuchOpnum ∧ decodeOp 0x85 {} = .reject .modeBitsSet ∧
    decodeOp 0x87 {} = .reject .modeBitsSet ∧ decodeOp 0xBE {} = .reject .partialByName ∧
    decodeOp 0xCA {} = .reject .partialByName ∧ decodeWire 0x23 {} = .reject .notAWireOpcode := by decide

/-! ### The bit-packer -/

/-- V2. -/
def imgV2 : Raster :=
  ⟨16, 2, .one, row [0, 1, 1, 1, 1, 1, 1, 1, 1, 1, 1, 1, 1, 1, 1, 0, 1, 0, 1, 0, 1, 0, 1, 0, 0, 0, 0, 0, 1, 1, 1, 1]⟩

theorem test_encMono_V2 : bytesOf (ran (.encMono imgV2) (fresh cfg16)) = [0x7F, 0xFE, 0xAA, 0x0F] := by decide +kernel

/-- V3: 0x7F black, 0x80 white, 0x40 black, 0x81 white. -/
theorem test_encMono_V3 :
    bytesOf (ran (.encMono ⟨16, 2, .eight,
      [0x00, 0x7F, 0x80, 0xFF, 0x01, 0xC0, 0x40, 0x81] ++ List.replicate 24 0xFF⟩) (fresh cfg16)) =
      [0x35, 0xFF, 0xFF, 0xFF] := by decide +kernel

/-- V4. -/
theorem test_encode_wrong_shape_V4 :
    (ran (.encMono ⟨3, 3, .one, List.replicate 9 0⟩) (fresh cfg16)).answer =
      some (.error (.unsupportedImageDimensions 3 3)) ∧
    (ran (.encGray ⟨3, 3, .one, List.replicate 9 0⟩) (fresh cfg16)).answer =
      some (.error (.unsupportedImageDimensions 3 3)) := by decide +kernel

/-- All 1 except one 0 at `(x, y)` of a raster 2 wide and 16 tall (V5). -/
def imgV5 (x y : Nat) : Raster := ⟨2, 16, .one, (List.replicate 32 1).set (x + 2 * y) 0⟩

theorem test_encMono_transposed_V5 :
    bytesOf (ran (.encMono (imgV5 0 0)) (fresh cfg16)) = [0xFF, 0xFF, 0x7F, 0xFF] ∧
    bytesOf (ran (.encMono (imgV5 1 0)) (fresh cfg16)) = [0x7F, 0xFF, 0xFF, 0xFF] ∧
    bytesOf (ran (.encMono (imgV5 0 15)) (fresh cfg16)) = [0xFF, 0xFF, 0xFF, 0xFE] ∧
    bytesOf (ran (.encMono (imgV5 1 9)) (fresh cfg16)) = [0xFF, 0xBF, 0xFF, 0xFF] := by decide +kernel

/-- V8. -/
theorem test_grayCode_V8 :
    [0x00, 0x3F, 0x40, 0x7F, 0x80, 0x81, 0xBF, 0xC0, 0xC1, 0xFE, 0xFF].map grayCode =
      [0, 0, 1, 1, 1, 2, 2, 2, 3, 3, 3] := by decide

/-- V9. -/
def imgV9 : Raster :=
  ⟨8, 2, .eight, [0xFF, 0xC0, 0x80, 0x00, 0x00, 0x80, 0xC0, 0xFF, 0xFF, 0xFF, 0xFF, 0xFF, 0x00, 0x00, 0x00, 0x00]⟩

theorem test_encGray_V9 : bytesOf (ran (.encGray imgV9) (fresh cfg8)) = [0xE4, 0x1B, 0xFF, 0x00] := by decide +kernel

/-- V11 and V12: a 1-bit raster, a transposed raster. -/
theorem test_encGray_V11_V12 :
    bytesOf (ran (.encGray ⟨8, 2, .one, row [1, 1, 1, 1, 0, 0, 0, 0, 1, 1, 1, 1, 1, 1, 1, 1]⟩) (fresh cfg8)) =
      [0xFF, 0x00, 0xFF, 0xFF] ∧
    bytesOf (ran (.encGray ⟨2, 8, .eight,
      ((((List.replicate 16 0xFF).set 0 0x00).set 2 0x80).set 4 0xC0).set 15 0x00⟩) (fresh cfg8)) =
      [0xFF, 0xFC, 0x1B, 0xFF] := by decide +kernel

/-- V14, V15, V13 (`AA AA`, `1B 1B`). -/
theorem test_repack_V13_V14_V15 :
    (ran (.repack [0xE4, 0x1B, 0xFF, 0x00]) (fresh cfg8)).answer = some (.ok (.planes [0x7E, 0x0F] [0x3C, 0x0F])) ∧
    (ran (.repack [0xFF, 0xFC, 0x1B, 0xFF]) (fresh cfg8)).answer = some (.ok (.planes [0x01, 0xE0] [0x01, 0xC0])) ∧
    (ran (.repack [0xAA, 0xAA]) (fresh (cfg 0 0))).answer = some (.ok (.planes [0xFF] [0x00])) ∧
    (ran (.repack [0x1B, 0x1B]) (fresh (cfg 0 0))).answer = some (.ok (.planes [0xEE] [0xCC])) := by decide +kernel

/-- V16. -/
theorem test_repack_wrong_length_V16 : (ran (.repack [1, 2, 3]) (fresh cfg8)).answer = some .refused := by decide +kernel

/-! ### Bus primitives -/

/-- V26. -/
theorem test_reset_V26 :
    (ran .reset (fresh cfg16)).trace =
      [.modInit 0, .write .rst .l1, .delay 20, .write .rst .l0, .delay 2, .write .rst .l1, .delay 20] ∧
    (ran .reset (fresh cfg16)).st = .awaitingBusyClear ∧ (ran .reset (fresh cfg16)).busHeld = true := by decide +kernel

/-- V28. -/
theorem test_reset_V28 :
    (ran .reset (noBus (fresh cfg16))).trace = [.modInit 7] ∧
    (ran .reset (noBus (fresh cfg16))).answer = some (.error (.hardwareInit 7)) ∧
    (ran .reset (noBus (fresh cfg16))).st = .uninitialized ∧
    (ran .reset (noBus (fresh cfg16))).busHeld = false := by decide +kernel

/-- V30: idle is met on the last permitted read. -/
theorem test_waitIdle_V30 :
    (ran (.waitIdle (some 20)) (busyReads [.l1, .l1, .l0] { ready cfg16 with st := .awaitingBusyClear })).trace =
      [.readBusy .l1, .delay 20, .readBusy .l1, .delay 20, .readBusy .l0, .delay 20] ∧
    (ran (.waitIdle (some 20)) (busyReads [.l1, .l1, .l0] { ready cfg16 with st := .awaitingBusyClear })).st = .ready := by
  decide +kernel

/-- V31. -/
theorem test_waitIdle_V31 :
    (ran (.waitIdle none) (busyReads [.l1, .l1, .l1] { ready cfg16 with st := .awaitingBusyClear })).trace =
      [.readBusy .l1, .delay 20, .readBusy .l1, .delay 20, .readBusy .l1] ∧
    (ran (.waitIdle none) (busyReads [.l1, .l1, .l1] { ready cfg16 with st := .awaitingBusyClear })).answer =
      some (.error (.deviceNotResponding 3)) ∧
    (ran (.waitIdle none) (busyReads [.l1, .l1, .l1] { ready cfg16 with st := .awaitingBusyClear })).st =
      .awaitingBusyClear := by decide +kernel

/-- V20, V21. -/
theorem test_sendCmd_sendData_V20_V21 :
    (ran (.sendCmd 0x12) (ready cfg16)).trace = [.write .dc .l0, .write .cs .l0, .xfer [0x12], .write .cs .l1] ∧
    (ran (.sendData 0x80) (ready cfg16)).trace = [.write .dc .l1, .write .cs .l0, .xfer [0x80], .write .cs .l1] := by
  decide +kernel

/-- V24. -/
theorem test_sendCmd_fails_V24 :
    (ran (.sendCmd 0x24) (failsAfter 0 (ready cfg16))).trace = [.write .dc .l0, .write .cs .l0, .xferFail [0x24]] ∧
    (ran (.sendCmd 0x24) (failsAfter 0 (ready cfg16))).answer = some (.error (.busTransaction .l0 [0x24])) ∧
    (ran (.sendCmd 0x24) (failsAfter 0 (ready cfg16))).pinCs = some .l0 ∧
    (ran (.sendCmd 0x24) (failsAfter 0 (ready cfg16))).st = .ready := by decide +kernel

/-- V22, V23: one transfer, the empty one too. -/
theorem test_sendBulk_V22_V23 :
    (ran (.sendBulk [0xFF, 0x00]) (ready cfg16)).trace =
      [.write .dc .l1, .write .cs .l0, .xfer [0xFF, 0x00], .write .cs .l1] ∧
    wire (ran (.sendBulk []) (ready cfg16)).trace = [] ∧ (ran (.sendBulk []) (ready cfg16)).answer = okAnswer := by
  decide +kernel

/-- V25, V33, V53. -/
theorem test_refused_by_state :
    (ran (.sendCmd 0x12) { ready cfg16 with st := .awaitingBusyClear }).answer = some .refused ∧
    (ran (.waitIdle (some 20)) (fresh cfg16)).answer = some .refused ∧
    (ran .sleep { fresh cfg16 with st := .sleeping }).answer = some .refused ∧
    (ran .triggerFull { fresh cfg16 with st := .sleeping }).answer = some .refused := by decide +kernel

/-! ### Register operations -/

/-- V40, V41. -/
theorem test_setWindow_V40_V41 :
    sentCommands (ran (.setWindow 0 479 799 0) (ready cfg800)) =
      [⟨0x44, [0x00, 0x00, 0x1F, 0x03]⟩, ⟨0x45, [0xDF, 0x01, 0x00, 0x00]⟩] ∧
    sentCommands (ran (.setWindow 0x3FF 0xFFFF 0x100 0x0100) (ready cfg800)) =
      [⟨0x44, [0xFF, 0x03, 0x00, 0x01]⟩, ⟨0x45, [0xFF, 0xFF, 0x00, 0x01]⟩] := by decide +kernel

/-- V43: the 7th transfer fails. -/
theorem test_setWindow_fails_V43 :
    sentCommands (ran (.setWindow 0 1 15 0) (failsAfter 6 (ready cfg16))) = [⟨0x44, [0, 0, 0x0F, 0]⟩, ⟨0x45, []⟩] ∧
    (ran (.setWindow 0 1 15 0) (failsAfter 6 (ready cfg16))).answer = some (.error (.busTransaction .l1 [0x01])) := by
  decide +kernel

/-- V42. -/
theorem test_setCursor_V42 :
    sentCommands (ran (.setCursor 0x155 0x01DF) (ready cfg800)) = [⟨0x4E, [0x55, 0x01]⟩, ⟨0x4F, [0xDF, 0x01]⟩] := by
  decide +kernel

/-- The 105 bytes 00 to 68 (V44). -/
def lutBytes : List Byte := (List.range 105).map (BitVec.ofNat 8)

/-- V44. -/
theorem test_loadLut_V44 :
    sentCommands (ran .loadLut (ready cfg16)) =
      [⟨0x32, lutBytes⟩, ⟨0x03, [0x69]⟩, ⟨0x04, [0x6A, 0x6B, 0x6C]⟩, ⟨0x2C, [0x6D]⟩] := by decide +kernel

/-- V45, and V46: the 108th transfer fails. -/
theorem test_loadLut_V45_V46 :
    (ran .loadLut { ready cfg16 with lutLoaded := true }).answer = some .refused ∧
    (ran .loadLut (failsAfter 107 (ready cfg16))).answer = some (.error (.busTransaction .l1 [0x69])) ∧
    (ran .loadLut (failsAfter 107 (ready cfg16))).lutLoaded = false := by decide +kernel

/-- V47, V48, V49. -/
theorem test_trigger_V47_V48_V49 :
    sentCommands (ran .triggerFull (ready cfg16)) = [⟨0x22, [0xF7]⟩, ⟨0x20, []⟩] ∧
    sentCommands (ran .triggerFast (ready cfg16)) = [⟨0x22, [0xC7]⟩, ⟨0x20, []⟩] ∧
    sentCommands (ran .triggerGrayscale (ready cfg16)) = [⟨0x22, [0xC7]⟩, ⟨0x20, []⟩] ∧
    sentCommands (ran .triggerPartial (ready cfg16)) = [⟨0x22, [0xFF]⟩, ⟨0x20, []⟩] ∧
    (ran .triggerPartial (busyReads [.l1, .l0] (ready cfg16))).trace.drop 12 =
      [.readBusy .l1, .delay 20, .readBusy .l0, .delay 20] := by decide +kernel

/-- V50: the activation went out, the wait ran out. -/
theorem test_trigger_V50 :
    (ran .triggerFull (busyReads [.l1, .l1, .l1] (ready cfg16))).answer = some (.error (.deviceNotResponding 3)) ∧
    (ran .triggerFull (busyReads [.l1, .l1, .l1] (ready cfg16))).st = .ready := by decide +kernel

/-- V51. -/
theorem test_sleep_V51 :
    (ran .sleep { ready cfg16 with mode := some .full, lutLoaded := true }).trace.drop 8 = [.delay 100, .modExit] ∧
    (ran .sleep { ready cfg16 with mode := some .full, lutLoaded := true }).st = .sleeping ∧
    (ran .sleep { ready cfg16 with mode := some .full, lutLoaded := true }).mode = none ∧
    (ran .sleep { ready cfg16 with mode := some .full, lutLoaded := true }).lutLoaded = false ∧
    (ran .sleep { ready cfg16 with mode := some .full, lutLoaded := true }).busHeld = false := by decide +kernel

/-- V52. -/
theorem test_sleep_fails_V52 :
    (ran .sleep (failsAfter 1 (ready cfg16))).answer = some (.error (.busTransaction .l1 [0x01])) ∧
    (ran .sleep (failsAfter 1 (ready cfg16))).busHeld = true ∧ (ran .sleep (failsAfter 1 (ready cfg16))).st = .ready := by
  decide +kernel

/-! ### Initialisation -/

/-- The register block of V60 and V62 after the border byte `b`. -/
def regs800 (b : Byte) : List WireCommand :=
  [⟨0x18, [0x80]⟩, ⟨0x0C, [0xAE, 0xC7, 0xC3, 0xC0, 0x80]⟩, ⟨0x01, [0xDF, 0x01, 0x02]⟩, ⟨0x3C, [b]⟩, ⟨0x11, [0x01]⟩,
    ⟨0x44, [0x00, 0x00, 0x1F, 0x03]⟩, ⟨0x45, [0xDF, 0x01, 0x00, 0x00]⟩, ⟨0x4E, [0x00, 0x00]⟩, ⟨0x4F, [0x00, 0x00]⟩]

/-- V60. -/
theorem test_initFull_V60 :
    sentCommands (ran .initFull (fresh cfg800)) = ⟨0x12, []⟩ :: regs800 0x01 ∧
    (ran .initFull (fresh cfg800)).trace.length = 145 ∧ (ran .initFull (fresh cfg800)).mode = some .full ∧
    (ran .initFull (fresh cfg800)).st = .ready := by decide +kernel

/-- V65, V66. -/
theorem test_initFull_V65_V66 :
    (ran .initFull (busyReads [.l1, .l1, .l1] (fresh cfg800))).answer = some (.error (.deviceNotResponding 3)) ∧
    (ran .initFull (busyReads [.l1, .l1, .l1] (fresh cfg800))).st = .uninitialized ∧
    (ran .initFull (busyReads [.l1, .l1, .l1] (fresh cfg800))).busHeld = true ∧
    (ran .initFull (busyReads [.l1, .l1, .l1] (fresh cfg800))).mode = none ∧
    (ran .initFull (noBus (fresh cfg800))).trace = [.modInit 7] := by decide +kernel

/-- V61. -/
theorem test_initFast_V61 :
    sentCommands (ran .initFast (fresh cfg800)) = ⟨0x12, []⟩ :: regs800 0x01 ++ [⟨0x22, [0x91]⟩, ⟨0x20, []⟩] ∧
    (ran .initFast (fresh cfg800)).trace.length = 159 ∧ (ran .initFast (fresh cfg800)).mode = some .fast := by
  decide +kernel

/-- V62. -/
theorem test_initPartial_V62 :
    sentCommands (ran .initPartial (fresh cfg800)) = regs800 0x80 ∧
    (ran .initPartial (fresh cfg800)).trace.length = 139 ∧ (ran .initPartial (fresh cfg800)).mode = some .part := by
  decide +kernel

/-- V63, its number of events. -/
theorem test_initGrayscale_V63 : (ran .initGrayscale (fresh cfg800)).trace.length = 617 := by decide +kernel

/-- V64. -/
theorem test_initGrayscale_again_V64 :
    sentCommands (ran .initGrayscale { ready cfg800 with lutLoaded := true }) =
      ⟨0x12, []⟩ :: regs800 0x01 ++ [⟨0x22, [0x91]⟩, ⟨0x20, []⟩] ∧
    (ran .initGrayscale { ready cfg800 with lutLoaded := true }).trace.length = 158 := by decide +kernel

/-! ### The refresh policy -/

/-- V70, V71, V72. -/
theorem test_selectMode_V70_V71_V72 :
    selectMode (fresh cfg16) .full true = .part ∧ selectMode (fresh cfg16) .full false = .full ∧
    selectMode (fresh cfg16) .fast true = .part ∧ selectMode (fresh cfg16) .grayscale false = .grayscale ∧
    selectMode { fresh cfg16 with prc := 2 } .full true = .full ∧
    selectMode { fresh cfg16 with prc := 2 } .fast true = .fast ∧
    selectMode { fresh cfg16 with cfg := { cfg16 with partialLimit := 0 } } .full true = .full := by decide +kernel

/-- P1. -/
theorem test_refreshFull_P1 :
    sentCommands (ran (.refreshFull [0x7F, 0xFE, 0xAA, 0x0F] false) (fresh cfg16)) =
      [⟨0x12, []⟩, ⟨0x18, [0x80]⟩, ⟨0x0C, [0xAE, 0xC7, 0xC3, 0xC0, 0x80]⟩, ⟨0x01, [0x01, 0x00, 0x02]⟩, ⟨0x3C, [0x01]⟩,
        ⟨0x11, [0x01]⟩, ⟨0x44, [0x00, 0x00, 0x0F, 0x00]⟩, ⟨0x45, [0x01, 0x00, 0x00, 0x00]⟩, ⟨0x4E, [0x00, 0x00]⟩,
        ⟨0x4F, [0x00, 0x00]⟩, ⟨0x24, [0x7F, 0xFE, 0xAA, 0x0F]⟩, ⟨0x22, [0xF7]⟩, ⟨0x20, []⟩] ∧
    (ran (.refreshFull [0x7F, 0xFE, 0xAA, 0x0F] false) (fresh cfg16)).trace.length = 167 ∧
    (ran (.refreshFull [0x7F, 0xFE, 0xAA, 0x0F] false) (fresh cfg16)).pinDc = some .l0 := by decide +kernel

/-- P3: the third refresh is Full and resets the count. -/
theorem test_refreshFull_P3 :
    (ran (.refreshFull [0xFF, 0xFF, 0, 0] true) (fresh cfg16)).trace.length = 161 ∧
    (ran (.refreshFull [0xFF, 0xFF, 0, 0] true) { ready cfg16 with prc := 1 }).prc = 2 ∧
    (ran (.refreshFull [0xFF, 0xFF, 0, 0] true) { ready cfg16 with prc := 2 }).prc = 0 ∧
    (ran (.refreshFull [0xFF, 0xFF, 0, 0] true) { ready cfg16 with prc := 2 }).trace.length = 166 := by decide +kernel

/-- P3, with op byte BD: Fast leaves the count. -/
theorem test_refreshFast_P3 :
    (ran (.refreshFast [0xFF, 0xFF, 0, 0] true) { ready cfg16 with prc := 2 }).prc = 2 ∧
    (ran (.refreshFast [0xFF, 0xFF, 0, 0] true) { ready cfg16 with prc := 2 }).orchMode = some .fast ∧
    (ran (.refreshFast [0xFF, 0xFF, 0, 0] true) { ready cfg16 with prc := 1 }).orchMode = some .part := by decide +kernel

/-- P2, the second refresh: its last commands, and the number of events. -/
theorem test_refreshGrayscale_P2 :
    (sentCommands (ran (.refreshGrayscale [0xE4, 0x1B, 0xFF, 0x00] false) { ready cfg8 with lutLoaded := true })).drop 12 =
      [⟨0x24, [0x7E, 0x0F]⟩, ⟨0x26, [0x3C, 0x0F]⟩, ⟨0x22, [0xC7]⟩, ⟨0x20, []⟩] ∧
    (ran (.refreshGrayscale [0xE4, 0x1B, 0xFF, 0x00] false) { ready cfg8 with lutLoaded := true }).trace.length =
      188 := by decide +kernel

/-- V73, V74. -/
theorem test_refresh_refused_V73_V74 :
    (ran (.refreshFull [1, 2, 3] false) (fresh cfg16)).answer = some .refused ∧
    (ran (.refreshGrayscale [0, 0, 0, 0] true) (fresh cfg8)).answer = some .refused ∧
    (ran (.updateGrayscale imgV9 true false) (fresh cfg8)).answer = some .refused := by decide +kernel

/-- V76, V77, with the digests 5 and 6. -/
theorem test_shouldUpdate_V76_V77 :
    (ran (.shouldUpdate 5 false) (fresh cfg16)).answer = some (.ok (.bit true)) ∧
    (ran (.shouldUpdate 5 false) { fresh cfg16 with fpValid := true, fp := 5 }).answer = some (.ok (.bit false)) ∧
    (ran (.shouldUpdate 5 true) { fresh cfg16 with fpValid := true, fp := 5 }).answer = some (.ok (.bit true)) ∧
    (ran (.shouldUpdate 6 false) { fresh cfg16 with fpValid := true, fp := 5 }).answer = some (.ok (.bit true)) := by
  decide +kernel

/-- The image of P5. -/
def imgA : Raster := ⟨16, 2, .one, List.replicate 16 1 ++ List.replicate 16 0⟩

/-- P5, step 1: the 35th transfer fails. -/
theorem test_updateFull_P5_fails :
    (ran (.updateFull imgA false false) (failsAfter 34 (fresh cfg16))).answer =
      some (.error (.busTransaction .l1 [0xFF, 0xFF, 0x00, 0x00])) ∧
    (ran (.updateFull imgA false false) (failsAfter 34 (fresh cfg16))).trace.length = 152 ∧
    (ran (.updateFull imgA false false) (failsAfter 34 (fresh cfg16))).mode = some .full ∧
    (ran (.updateFull imgA false false) (failsAfter 34 (fresh cfg16))).orchMode = none ∧
    (ran (.updateFull imgA false false) (failsAfter 34 (fresh cfg16))).fpValid = false := by decide +kernel

/-- P5, step 2. -/
theorem test_updateFull_P5_retry :
    (ran (.updateFull imgA false false) (ready cfg16)).answer = some (.ok (.transmitted true)) ∧
    (ran (.updateFull imgA false false) (ready cfg16)).trace.length = 166 ∧
    (ran (.updateFull imgA false false) (ready cfg16)).fpValid = true := by decide +kernel

/-- V78: whatever the digest of the image is. -/
theorem test_update_skips_V78 :
    (ran (.updateFull imgA false false)
      { fresh cfg16 with st := .sleeping, fpValid := true, fp := Config.fingerprint imgA }).answer =
      some (.ok (.transmitted false)) := by
  have h : orientation cfg16 imgA = some .identity := by decide +kernel
  simp [ran, exec, execUpdateFull, updateOp, hostOp, updateBody, shouldUpdate, entryVisible, updateAccepted, answerWith,
    show (fresh cfg16).cfg = cfg16 from rfl, h]

/-- V79, and the grayscale update of V9's image. -/
theorem test_update_V79 :
    (ran (.updateFast ⟨3, 3, .one, List.replicate 9 0⟩ false true) (fresh cfg16)).answer =
      some (.error (.unsupportedImageDimensions 3 3)) ∧
    (sentCommands (ran (.updateGrayscale imgV9 false false) { ready cfg8 with lutLoaded := true })).drop 12 =
      [⟨0x24, [0x7E, 0x0F]⟩, ⟨0x26, [0x3C, 0x0F]⟩, ⟨0x22, [0xC7]⟩, ⟨0x20, []⟩] := by decide +kernel

/-! ### Wire commands, the table S8 -/

theorem test_wire_S8 :
    [Instr.wireDriverOutputControl, .wireDataEntryMode, .wireResetDeepSleep, .wireSetRamXWindow 0 799,
      .wireSetRamYWindow 479 0, .wireBorderWaveform .part, .wireBoosterSoftStart, .wireTempSensorSelect,
      .wireSetRamXAddrCounter 0x155].flatMap (fun i => sentCommands (ran i (ready cfg800))) =
      [⟨0x01, [0xDF, 0x01, 0x02]⟩, ⟨0x11, [0x01]⟩, ⟨0x12, []⟩, ⟨0x44, [0x00, 0x00, 0x1F, 0x03]⟩,
        ⟨0x45, [0xDF, 0x01, 0x00, 0x00]⟩, ⟨0x3C, [0x80]⟩, ⟨0x0C, [0xAE, 0xC7, 0xC3, 0xC0, 0x80]⟩, ⟨0x18, [0x80]⟩,
        ⟨0x4E, [0x55, 0x01]⟩] := by decide +kernel

theorem test_wire_S8_rest :
    [Instr.wireSetRamYAddrCounter 0x01DF, .wireDisplayUpdateControl2 .fastFlag, .wireMasterActivation,
      .wireGateLineEnd, .wireGateDrivingVoltage, .wireVcomRegister,
      .wireWriteBwRamPlane1 [1, 2, 3, 4], .wireWriteBwRamPlane2 [5, 6, 7, 8], .wireDeepSleep].flatMap
        (fun i => sentCommands (ran i (ready cfg16))) =
      [⟨0x4F, [0xDF, 0x01]⟩, ⟨0x22, [0x91]⟩, ⟨0x20, []⟩, ⟨0x03, [0x69]⟩, ⟨0x04, [0x6A, 0x6B, 0x6C]⟩, ⟨0x2C, [0x6D]⟩, ⟨0x24, [1, 2, 3, 4]⟩,
        ⟨0x26, [5, 6, 7, 8]⟩, ⟨0x10, [0x01]⟩] ∧
    wireCommandOf cfg16 .wireWriteLutRegister = some ⟨0x32, lutBytes⟩ := by decide +kernel

/-! ### Witnesses: for each statement with hypotheses, a state and operands that meet them all -/

/-- AwaitingBusyClear, with the bus held. -/
def awaiting (c : Config) : State := { ready c with st := .awaitingBusyClear }

/-- The premises about ENV, as one check. -/
theorem witness_premises_unfold (n : Nat) (ns : List Nat) (s : State) :
    (transfersSucceed n s ↔ oracleAnswers Config.freeSpi n s.spi = List.replicate n true) ∧
    (transferFailsAfter n s ↔ oracleAnswers Config.freeSpi (n + 1) s.spi = List.replicate n true ++ [false]) ∧
    (waitsMeetIdle ns s ↔ (∀ n ∈ ns, n + 1 ≤ busyMaxPolls s.cfg) ∧
      oracleAnswers Config.freeBusy (readsOf ns) s.busy = samples ns) :=
  ⟨Iff.rfl, Iff.rfl, Iff.rfl⟩

/-- One byte for each clause: bit 7 clear, opnum 0, opnum 19 and 31, a mode where none is taken, Partial by name. -/
theorem witness_IllFormedOpByteIsRefused :
    { fresh cfg16 with inbox := [.op 0xBE {}] }.inbox = .op 0xBE {} :: [] ∧
    ∀ byte ∈ [(0x00 : Byte), 0x7F, 0x80, 0xCC, 0xFF, 0x85, 0xC7, 0xBE, 0xCA],
      (byte.toNat < 128 ∨ byte.toNat / 4 % 32 = 0 ∨ 19 ≤ byte.toNat / 4 % 32 ∨
        (byte.toNat % 4 ≠ 0 ∧ byte.toNat / 4 % 32 ∉ [12, 13, 15, 18]) ∨
        (byte.toNat % 4 = 2 ∧ byte.toNat / 4 % 32 ∈ [15, 18])) := by
  exact ⟨rfl, by decide +kernel⟩

theorem witness_EncodeOfDecode :
    decodeOp 0xCB {} = .instr (.updateGrayscale ⟨0, 0, .one, []⟩ false false) ∧
    decodeWire 0x4F { y0 := 0xFFFF } = .instr (.wireSetRamYAddrCounter 0xFFFF) := ⟨rfl, rfl⟩

/-- The widest operands, and a frame of MONO_LEN bytes. -/
theorem witness_WireBytesReadBack :
    wireCommandOf cfg16 (.wireSetRamXWindow 0x3FF 0) = some (cmdXWindow 0x3FF 0) ∧
    wireCommandOf cfg16 (.wireWriteBwRamPlane2 [1, 2, 3, 4]) = some ⟨0x26, [1, 2, 3, 4]⟩ ∧
    [1, 2, 3, 4].length = width cfg16 / 8 * height cfg16 := ⟨rfl, rfl, rfl⟩

theorem witness_StepKeepsInvariant :
    Inv { fresh cfg16 with inbox := [.op 0xB0 {}] } ∧
    ∃ t, step { fresh cfg16 with inbox := [.op 0xB0 {}] } = .next t :=
  ⟨⟨.inl rfl, fun h => h.elim (fun h => by cases h) (fun h => by cases h), Nat.zero_le _, fun _ => ⟨rfl, rfl⟩, rfl, rfl, rfl, rfl, rfl⟩,
    _, rfl⟩

theorem witness_StepRunsDecodedInstruction :
    { fresh cfg16 with inbox := [.wire 0x4E { x0 := 5 }, .restart] }.inbox = .wire 0x4E { x0 := 5 } :: [.restart] ∧
    decodeRequest (.wire 0x4E { x0 := 5 }) = some (.instr (.wireSetRamXAddrCounter 5)) ∧
    (Instr.wireSetRamXAddrCounter 5).wellFormed = true := ⟨rfl, rfl, rfl⟩

theorem witness_IdleAndRestart :
    (fresh cfg16).inbox = [] ∧ { ready cfg16 with inbox := [.restart] }.inbox = .restart :: [] := ⟨rfl, rfl⟩

/-- TraceOnlyGrows and OnlyTheNamedWritersWrite: an instruction that answers a next state, for each clause. -/
theorem witness_OnlyTheNamedWritersWrite :
    (exec (.sendCmd 0x12) (ready cfg16) = .next (ran (.sendCmd 0x12) (ready cfg16)) ∧
      writesMode (.sendCmd 0x12) = false ∧ setsLut (.sendCmd 0x12) = false ∧ setsBus (.sendCmd 0x12) = false ∧
      writesCount (.sendCmd 0x12) = false ∧ isUpdate (.sendCmd 0x12) = false ∧
      (ran (.sendCmd 0x12) { ready cfg16 with lutLoaded := true }).lutLoaded = true ∧
      (ran (.sendCmd 0x12) (ready cfg16)).busHeld = true) := by
  exact ⟨exec_ran _ _, rfl, rfl, rfl, rfl, rfl, by decide +kernel, by decide +kernel⟩

theorem witness_OnlyTableOpcodesAreSent :
    isHostOp .triggerFull = true ∧ exec .triggerFull (ready cfg16) = .next (ran .triggerFull (ready cfg16)) ∧
    (ran .triggerFull (ready cfg16)).trace = (ready cfg16).trace ++ (ran .triggerFull (ready cfg16)).trace ∧
    WireItem.c 0x22 ∈ wire (ran .triggerFull (ready cfg16)).trace := by
  exact ⟨rfl, exec_ran _ _, rfl, by decide +kernel⟩

/-- Identity, transposed and neither; the corner pixels; both depths (imgV2 and imgV9, and for ENC_GRAY the two). -/
theorem witness_EncMono_EncGray :
    shapeFits cfg16 imgV2 ∧ shapeFits cfg16 (imgV5 0 0) ∧ ¬ shapeFits cfg16 ⟨3, 3, .one, List.replicate 9 0⟩ ∧
    shapeFits cfg8 imgV9 ∧ 15 < width cfg16 ∧ 1 < height cfg16 ∧ 0 < width cfg16 ∧ 0 < height cfg16 := by
  simp only [shapeFits]
  decide +kernel

/-- The luminances where the clauses of ENC_GRAY meet are pixels of a raster of the panel's shape. -/
theorem witness_EncGray_boundaries :
    ∀ v ∈ [(0x00 : Byte), 0x3F, 0x40, 0x80, 0x81, 0xC0, 0xC1, 0xFF],
      (pixelAt cfg8 ⟨8, 2, .eight, List.replicate 16 v⟩ 7 1) = v := by
  decide +kernel

theorem witness_RepackSplitsIntoPlanes :
    [0xE4, 0x1B, 0xFF, 0x00].length = width cfg8 / 4 * height cfg8 ∧ [1, 2, 3].length ≠ width cfg8 / 4 * height cfg8 := by
  decide +kernel

theorem witness_AllWhiteAndAllBlack :
    shapeFits cfg16 ⟨2, 16, .one, List.replicate 32 1⟩ ∧
    (⟨2, 16, .one, List.replicate 32 1⟩ : Raster).wellFormed = true ∧ (∀ v ∈ List.replicate 32 (1 : Byte), v = 0x01) ∧
    shapeFits cfg16 ⟨16, 2, .eight, List.replicate 32 0⟩ ∧
    (⟨16, 2, .eight, List.replicate 32 0⟩ : Raster).wellFormed = true ∧
    (∀ v ∈ List.replicate 32 (0 : Byte), v = 0) := by
  simp only [shapeFits]
  decide +kernel

theorem witness_UniformBucketsPackToOneByte :
    shapeFits cfg8 ⟨8, 2, .eight, List.replicate 16 0xC0⟩ ∧
    (⟨8, 2, .eight, List.replicate 16 0xC0⟩ : Raster).wellFormed = true ∧
    ((0xC0 : Byte), (0xAA : Byte)) ∈ [((0xFF : Byte), (0xFF : Byte)), (0xC0, 0xAA), (0x80, 0x55), (0x00, 0x00)] ∧
    ∀ p ∈ List.replicate 16 (0xC0 : Byte), p = 0xC0 := by
  simp only [shapeFits]
  decide +kernel

/-- A raster 2 wide and 8 tall (V12) and the same turned: row 0 is column 1, row 1 is column 0. -/
theorem witness_TransposedEncodesAsTurned :
    width cfg8 ≠ height cfg8 ∧
    turned cfg8 ⟨2, 8, .eight, ((((List.replicate 16 0xFF).set 0 0x00).set 2 0x80).set 4 0xC0).set 15 0x00⟩
      ⟨8, 2, .eight, List.replicate 7 0xFF ++ [0x00, 0x00, 0x80, 0xC0] ++ List.replicate 5 0xFF⟩ := by
  refine ⟨by decide, rfl, rfl, rfl, ?_⟩
  have h : ∀ px : Fin 8, ∀ py : Fin 2,
      rasterPixel ⟨8, 2, .eight, List.replicate 7 0xFF ++ [0x00, 0x00, 0x80, 0xC0] ++ List.replicate 5 0xFF⟩ px py =
      rasterPixel ⟨2, 8, .eight, ((((List.replicate 16 0xFF).set 0 0x00).set 2 0x80).set 4 0xC0).set 15 0x00⟩
        (1 - py) px := by decide +kernel
  exact fun px py hx hy => h ⟨px, hx⟩ ⟨py, hy⟩

theorem witness_PureOperationsTouchNothing :
    (∃ img, Instr.fpCompute imgA = .encMono img) ∨ (∃ img, Instr.fpCompute imgA = .encGray img) ∨
    (∃ g, Instr.fpCompute imgA = .repack g) ∨ (∃ img, Instr.fpCompute imgA = .fpCompute img) ∨
    (∃ fp force, Instr.fpCompute imgA = .shouldUpdate fp force) := .inr (.inr (.inr (.inl ⟨_, rfl⟩)))

/-- The bus taken, the bus already held, ModInit failing. -/
theorem witness_ResetPulsesAndAwaits :
    busTakes (fresh cfg16) ∧ (fresh cfg16).st ∈ [St.uninitialized, .awaitingBusyClear, .ready, .sleeping] ∧
    busTakes (ready cfg16) ∧ (ready cfg16).st ∈ [St.uninitialized, .awaitingBusyClear, .ready, .sleeping] ∧
    ¬ busTakes (noBus (fresh cfg16)) := by
  simp only [busTakes]
  decide +kernel

/-- Idle at once, idle on the last permitted read, busy to the bound. -/
theorem witness_WaitIdlePollsToItsBound :
    (awaiting cfg16).st = .awaitingBusyClear ∧ waitsMeetIdle [0] (awaiting cfg16) ∧
    waitsMeetIdle [2] (busyReads [.l1, .l1, .l0] (awaiting cfg16)) ∧
    waitTimesOut (busyReads [.l1, .l1, .l1] (ready cfg16)) := by
  simp only [waitsMeetIdle, waitTimesOut]
  decide +kernel

theorem witness_WaitIdleIsBounded :
    exec (.waitIdle none) (awaiting cfg16) = .next (ran (.waitIdle none) (awaiting cfg16)) := exec_ran _ _

/-- SEND_CMD, SEND_DATA, SEND_BULK: the transfer succeeds, the transfer fails. -/
theorem witness_Sends :
    (ready cfg16).st = .ready ∧ transfersSucceed 1 (ready cfg16) ∧ (failsAfter 0 (ready cfg16)).st = .ready ∧
    transferFailsAfter 0 (failsAfter 0 (ready cfg16)) := by
  simp only [transfersSucceed, transferFailsAfter]
  decide +kernel

/-- SET_WINDOW, SET_CURSOR, LOAD_LUT, SLEEP and a wire command: all transfers succeed; the first, the last one fails. -/
theorem witness_Commands :
    transfersSucceed 10 (ready cfg16) ∧ transfersSucceed 6 (ready cfg16) ∧ transfersSucceed 114 (ready cfg16) ∧
    transfersSucceed 2 (ready cfg16) ∧ (ready cfg16).lutLoaded = false ∧
    transferFailsAfter 0 (failsAfter 0 (ready cfg16)) ∧ transferFailsAfter 9 (failsAfter 9 (ready cfg16)) ∧
    (itemList [listXWindow 0 15, listYWindow 1 0])[9]? = some (.l1, 0) ∧
    (itemList [listXCounter 0, listYCounter 0])[5]? = some (.l1, 0) ∧
    (itemList (listLut cfg16))[113]? = some (.l1, 0x6D) ∧
    (itemList [(⟨0x10, [0x01]⟩ : WireCommand)])[1]? = some (.l1, 0x01) := by
  simp only [transfersSucceed, transferFailsAfter]
  decide +kernel

theorem witness_TriggerActivatesAndWaits :
    (Instr.triggerPartial, Mode.part) ∈ [(Instr.triggerFull, Mode.full), (.triggerFast, .fast),
      (.triggerPartial, .part), (.triggerGrayscale, .grayscale)] ∧
    transfersSucceed 3 (ready cfg16) ∧ waitsMeetIdle [0] (ready cfg16) ∧
    waitsMeetIdle [2] (busyReads [.l1, .l1, .l0] (ready cfg16)) ∧
    transfersSucceed 3 (busyReads [.l1, .l1, .l1] (ready cfg16)) ∧
    waitTimesOut (busyReads [.l1, .l1, .l1] (ready cfg16)) ∧
    (itemList (listTrigger .part))[2]? = some (.l0, 0x20) ∧ transferFailsAfter 2 (failsAfter 2 (ready cfg16)) := by
  simp only [transfersSucceed, transferFailsAfter, waitsMeetIdle, waitTimesOut]
  decide +kernel

/-- The four INIT, waits of different lengths, one of them at the bound. -/
theorem witness_Inits :
    (fresh cfg16).st ∈ [St.uninitialized, .awaitingBusyClear, .ready, .sleeping] ∧ busTakes (fresh cfg16) ∧
    waitsMeetIdle [0, 2, 1] (busyReads (samples [0, 2, 1]) (fresh cfg16)) ∧ transfersSucceed 33 (fresh cfg16) ∧
    waitsMeetIdle [0, 0, 0, 0] (fresh cfg16) ∧ transfersSucceed 36 (fresh cfg16) ∧ waitsMeetIdle [0, 0] (fresh cfg16) ∧
    transfersSucceed 32 (fresh cfg16) ∧ waitsMeetIdle [0, 0, 0, 0, 0] (fresh cfg16) ∧
    transfersSucceed 150 (fresh cfg16) ∧ (fresh cfg16).lutLoaded = false := by
  simp only [transfersSucceed, waitsMeetIdle, busTakes]
  decide +kernel

/-- INIT.Grayscale with the table loaded. -/
theorem witness_InitGrayscale_loaded :
    busTakes { ready cfg16 with lutLoaded := true } ∧ waitsMeetIdle [0, 0, 0, 0] { ready cfg16 with lutLoaded := true } ∧
    transfersSucceed 36 { ready cfg16 with lutLoaded := true } := by
  simp only [transfersSucceed, waitsMeetIdle, busTakes]
  decide +kernel

/-- InitPutsTheListingOnTheWire and InitCounts. -/
theorem witness_InitPutsTheListingOnTheWire :
    exec .initPartial (ready cfg16) = .next (ran .initPartial (ready cfg16)) ∧
    (ran .initPartial (ready cfg16)).answer = okAnswer ∧
    Event.readBusy .l1 ∉ (ran .initPartial (ready cfg16)).trace ∧
    (ran .initPartial (ready cfg16)).trace.length = 6 + 2 * 2 + 4 * 32 := by
  exact ⟨exec_ran _ _, by decide +kernel⟩

/-- REFRESH in its content type, as Partial, at the limit, and for grayscale. -/
theorem witness_RefreshRunsTheChosenMode :
    actualMode .full true (ready cfg16) = .part ∧ refreshEnv .part [0, 0, 0] (ready cfg16) ∧
    actualMode .fast true { ready cfg16 with prc := 2 } = .fast ∧
    refreshEnv .fast [0, 0, 0, 0, 0] { ready cfg16 with prc := 2 } ∧
    [1, 2, 3, 4].length = monoLen cfg16 ∧
    actualMode .grayscale false (fresh cfg8) = .grayscale ∧ refreshEnv .grayscale [0, 0, 0, 0, 0, 0] (fresh cfg8) ∧
    [1, 2, 3, 4].length = grayLen cfg8 := by
  simp only [refreshEnv, transfersSucceed, waitsMeetIdle, busTakes, actualMode]
  decide +kernel

theorem witness_RefreshRefusesWrongOperands :
    [1, 2, 3].length ≠ width cfg16 / 8 * height cfg16 ∧ [1, 2, 3, 4].length = width cfg8 / 4 * height cfg8 ∧
    [1, 2, 3].length ≠ width cfg8 / 4 * height cfg8 := by decide +kernel

/-- The states a REFRESH passes through, asked for piece by piece. -/
theorem witness_RefreshIsInitFrameTrigger :
    actualMode .full false (ready cfg16) = .full ∧ (ran .initFull (ready cfg16)).answer = okAnswer ∧
    (ran (.sendCmd 0x24) (ran .initFull (ready cfg16))).answer = okAnswer ∧
    (ran (.sendBulk [1, 2, 3, 4]) (ran (.sendCmd 0x24) (ran .initFull (ready cfg16)))).answer = okAnswer ∧
    (ran .triggerFull (ran (.sendBulk [1, 2, 3, 4]) (ran (.sendCmd 0x24) (ran .initFull (ready cfg16))))).answer =
      okAnswer := by
  simp only [actualMode]
  decide +kernel

/-- UPDATE: wrong shape; nothing stored, run in its content type and as Partial; an unchanged image. -/
theorem witness_UpdateRefreshesAndStores :
    (fresh cfg16).st ∈ [St.uninitialized, .awaitingBusyClear, .ready, .sleeping] ∧
    shapeFits cfg16 imgA ∧ ¬ shapeFits cfg16 imgV9 ∧ (fresh cfg16).fpValid = false ∧
    refreshEnv (actualMode .full false (fresh cfg16)) [0, 0, 0, 0] (fresh cfg16) ∧
    refreshEnv (actualMode .fast true (fresh cfg16)) [0, 0, 0] (fresh cfg16) ∧
    { fresh cfg16 with fpValid := true, fp := Config.fingerprint imgA }.fp = Config.fingerprint imgA := by
  refine ⟨by decide, .inl ⟨rfl, rfl⟩, ?_, rfl, ?_, ?_, rfl⟩
  · simp only [shapeFits]; decide +kernel
  · simp only [refreshEnv, transfersSucceed, waitsMeetIdle, busTakes, actualMode]; decide +kernel
  · simp only [refreshEnv, transfersSucceed, waitsMeetIdle, busTakes, actualMode]; decide +kernel

/-- REFRESH of the encoded image answers OK, and an error. -/
theorem witness_UpdateIsEncodeRefreshStore :
    (fresh cfg16).fpValid = false ∧
    encodeAnswer cfg16 imgA encodeMono = .ok (.bytes [0xFF, 0xFF, 0x00, 0x00]) ∧
    (ran (.refreshFull [0xFF, 0xFF, 0x00, 0x00] true) (fresh cfg16)).answer = okAnswer ∧
    (ran (.refreshFull [0xFF, 0xFF, 0x00, 0x00] false) (failsAfter 34 (fresh cfg16))).answer =
      some (.error (.busTransaction .l1 [0xFF, 0xFF, 0x00, 0x00])) := by decide +kernel

theorem witness_SecondUpdateIsSkipped :
    exec (.updateFull imgA false false) (ready cfg16) = .next (ran (.updateFull imgA false false) (ready cfg16)) ∧
    (ran (.updateFull imgA false false) (ready cfg16)).answer = some (.ok (.transmitted true)) ∧
    operandsAccepted (.updateGrayscale imgA false false) (ran (.updateFull imgA false false) (ready cfg16)) :=
  ⟨exec_ran _ _, by decide +kernel, rfl⟩

/-- A chain of two REFRESH.Full(buf, 1), the limit of the bench. -/
theorem witness_PartialRefreshBound_within :
    (ready cfg16).prc = 0 ∧ 2 ≤ (ready cfg16).cfg.partialLimit.toNat ∧
    ∃ t, refreshChain [1, 2, 3, 4] 2 (ready cfg16) t :=
  ⟨rfl, by decide, _, _, exec_ran _ _, by decide +kernel, _, exec_ran _ _, by decide +kernel, rfl⟩

/-- A chain of three, one past the limit. -/
theorem witness_PartialRefreshBound_past :
    3 = (ready cfg16).cfg.partialLimit.toNat + 1 ∧ ∃ t, refreshChain [1, 2, 3, 4] 3 (ready cfg16) t :=
  ⟨by decide, _, _, exec_ran _ _, by decide +kernel, _, exec_ran _ _, by decide +kernel, _, exec_ran _ _,
    by decide +kernel, rfl⟩

/-- FailedUpdateIsRetried, and AbortRestoresOnlyTheState for a failing transfer. -/
theorem witness_FailedUpdateIsRetried :
    (ran (.updateFull imgA false false) (failsAfter 34 (fresh cfg16))).answer =
      some (.error (.busTransaction .l1 [0xFF, 0xFF, 0x00, 0x00])) ∧
    (failsAfter 34 (fresh cfg16)).fpValid = false := by decide +kernel

/-- EntryAndEndStates: a state outside the entry states, an OK, an error; RefusedExactlyWhen and ClassesOfEachOperation are
met by each. -/
theorem witness_EntryAndEndStates :
    isHostOp .loadLut = true ∧ (fresh cfg16).st ∉ allowedEntry .loadLut ∧
    (ready cfg16).st ∈ allowedEntry .loadLut ∧ (ready cfg16).lutLoaded = false ∧
    (ran (.sendData 7) (ready cfg16)).answer = some (.ok .none) ∧
    (ran .sleep (failsAfter 0 (ready cfg16))).answer = some (.error (.busTransaction .l0 [0x10])) ∧
    (ready cfg16).st ∈ [St.uninitialized, .awaitingBusyClear, .ready, .sleeping] := by decide +kernel

/-- AbortRestoresOnlyTheState: the other three errors. -/
theorem witness_AbortRestoresOnlyTheState :
    (ran .initFull (noBus (fresh cfg16))).answer = some (.error (.hardwareInit 7)) ∧
    (ran (.waitIdle none) (busyReads [.l1, .l1, .l1] (ready cfg16))).answer =
      some (.error (.deviceNotResponding 3)) ∧
    (ran (.updateFast imgV9 false true) (fresh cfg16)).answer = some (.error (.unsupportedImageDimensions 8 2)) ∧
    writesCount .initFull = false ∧ askedMode (.updateFast imgV9 false true) = some (.fast, false) := by decide +kernel

/-- INIT.Grayscale whose table went out and whose last wait runs out: the table flag and the bus handle stay. -/
def lateTimeout : State := ran .initGrayscale (busyReads [.l0, .l0, .l0, .l0, .l1, .l1, .l1] (fresh cfg16))

/-- AbortRestoresOnlyTheState: the flags are not restored (R18, R257). -/
theorem witness_AbortKeepsFlags :
    lateTimeout.answer = some (.error (.deviceNotResponding 3)) ∧ lateTimeout.st = .uninitialized ∧
    lateTimeout.lutLoaded = true ∧ lateTimeout.busHeld = true ∧ lateTimeout.mode = none ∧
    tableSent cfg16 lateTimeout.trace := by
  simp only [tableSent]
  decide +kernel

/-- AbortRestoresOnlyTheState: REFRESH.Full fails at its last transfer of INIT, at `C(24)`, and after it (R225). -/
theorem witness_AbortKeepsMode :
    (ran (.refreshFull [1, 2, 3, 4] false) (failsAfter 32 (fresh cfg16))).answer =
      some (.error (.busTransaction .l1 [0x00])) ∧
    (ran (.refreshFull [1, 2, 3, 4] false) (failsAfter 32 (fresh cfg16))).mode = none ∧
    (ran (.refreshFull [1, 2, 3, 4] false) (failsAfter 33 (fresh cfg16))).answer =
      some (.error (.busTransaction .l0 [0x24])) ∧
    (ran (.refreshFull [1, 2, 3, 4] false) (failsAfter 33 (fresh cfg16))).mode = some .full ∧
    WireItem.c 0x24 ∈ wire (ran (.refreshFull [1, 2, 3, 4] false) (failsAfter 34 (fresh cfg16))).trace := by
  decide +kernel

/-- HardwareInitErrorComesFirst: ModInit fails; an UPDATE with something to transmit. -/
theorem witness_HardwareInitErrorComesFirst :
    ¬ busTakes (noBus (fresh cfg16)) ∧
    (noBus (fresh cfg16)).st ∈ [St.uninitialized, .awaitingBusyClear, .ready, .sleeping] ∧ shapeFits cfg16 imgA ∧
    (noBus (fresh cfg16)).fpValid = false ∧
    (ran (.updateFull imgA false false) (noBus (fresh cfg16))).answer = some (.error (.hardwareInit 7)) ∧
    [1, 2, 3, 4].length = monoLen cfg16 := by
  simp only [busTakes, shapeFits]
  decide +kernel

/-- A command with a payload and one without, each at its last transfer. -/
theorem witness_WireCommandsSendTheTable :
    wireTable cfg16 .wireMasterActivation = some ⟨0x20, []⟩ ∧ transfersSucceed 1 (ready cfg16) ∧
    (itemList [(⟨0x20, []⟩ : WireCommand)])[0]? = some (.l0, 0x20) ∧
    transferFailsAfter 0 (failsAfter 0 (ready cfg16)) ∧
    wireTable cfg16 (.wireBorderWaveform .part) = some ⟨0x3C, [0x80]⟩ ∧ transfersSucceed 2 (ready cfg16) ∧
    (itemList [(⟨0x3C, [0x80]⟩ : WireCommand)])[1]? = some (.l1, 0x80) ∧
    transferFailsAfter 1 (failsAfter 1 (ready cfg16)) := by
  simp only [transfersSucceed, transferFailsAfter]
  decide +kernel

theorem witness_FrameCommandsSendTheBuffer :
    [1, 2, 3, 4].length = width cfg16 / 8 * height cfg16 ∧ [1, 2, 3].length ≠ width cfg16 / 8 * height cfg16 ∧
    transfersSucceed 2 (ready cfg16) ∧ transferFailsAfter 0 (failsAfter 0 (ready cfg16)) ∧
    transferFailsAfter 1 (failsAfter 1 (ready cfg16)) := by
  simp only [transfersSucceed, transferFailsAfter]
  decide +kernel

/-- The first command answers OK; the second answers OK, or fails. -/
theorem witness_WindowAndCursorAreTwoWireCommands :
    (ran (.wireSetRamXWindow 0 15) (ready cfg16)).answer = okAnswer ∧
    (ran (.wireSetRamYWindow 1 0) (ran (.wireSetRamXWindow 0 15) (ready cfg16))).answer = okAnswer ∧
    (ran (.wireSetRamXAddrCounter 0) (failsAfter 3 (ready cfg16))).answer = okAnswer ∧
    (ran (.wireSetRamYAddrCounter 0) (ran (.wireSetRamXAddrCounter 0) (failsAfter 3 (ready cfg16)))).answer =
      some (.error (.busTransaction .l0 [0x4F])) := by decide +kernel

/-- EncMonoClearsTheBackground: both orientations; the buffers are those of V2 and V5. -/
theorem witness_EncMonoClearsTheBackground :
    orientation cfg16 imgV2 = some .identity ∧ encodeMonoByClearing cfg16 .identity imgV2 = [0x7F, 0xFE, 0xAA, 0x0F] ∧
    orientation cfg16 (imgV5 1 9) = some .transposed ∧
    encodeMonoByClearing cfg16 .transposed (imgV5 1 9) = [0xFF, 0xBF, 0xFF, 0xFF] := by decide +kernel

end Sys2Proof.Tests
end

section
/-! PROOFS. What every instruction leaves alone: the configuration, the host's next requests and the events of the trace so
far (R4, R56, R57). -/

namespace Sys2Proof.Machine

/-- A plan touches neither the configuration nor the inbox, and only adds to the trace, whether it is refused, done, or
aborted before or at one of its steps. -/
theorem runPlan_extends (p : Plan) (s : State) :
    (runPlan p s).cfg = s.cfg ∧ (runPlan p s).inbox = s.inbox ∧ ∃ more, (runPlan p s).trace = s.trace ++ more := by
  obtain ⟨more, htrace, hcfg, hinbox, -⟩ := runAll_trace p.actions s
  rcases runPlan_cases p s with ⟨-, h⟩ | ⟨-, -, -, t, hrun, h⟩ | ⟨-, -, -, e, t, hrun, h⟩ | ⟨-, -, e, -, h⟩
  · simp [h]
  · rw [hrun] at htrace hcfg hinbox
    rw [h]
    exact ⟨hcfg, hinbox, more, htrace⟩
  · rw [hrun] at htrace hcfg hinbox
    rw [h]
    exact ⟨hcfg, hinbox, more, htrace⟩
  · simp [h]

/-- Settles O13: every instruction runs its plan, and a plan only adds to the trace. -/
theorem traceOnlyGrows : Obligations.TraceOnlyGrows := by
  intro i s t h
  rw [exec_eq_runPlan] at h
  cases h
  exact runPlan_extends (plan i s) s

end Sys2Proof.Machine
end

section
/-! PROOFS. Which registers an instruction may write, and that a plan keeps what its steps keep (R15, R17 to R21, R296). -/

namespace Sys2Proof.Machine

/-- A plan keeps a property of the registers, the pins and the trace when its steps do: the wrapper itself writes `S.st` and
the answer alone (R139, R257). -/
theorem runPlan_keeps {P : State → Prop} (hwrap : ∀ u v a, P u → P { u with st := v, answer := a }) {p : Plan} {s : State}
    (hs : P s) (hrun : P (runState (runAll p.actions s))) : P (runPlan p s) := by
  rcases runPlan_cases p s with ⟨-, h⟩ | ⟨-, -, -, t, hr, h⟩ | ⟨-, -, -, e, t, hr, h⟩ | ⟨-, -, e, -, h⟩
  · rw [h]; exact hwrap s s.st _ hs
  · rw [hr] at hrun; rw [h]; exact hwrap t t.st _ hrun
  · rw [hr] at hrun; rw [h]; exact hwrap t s.st _ hrun
  · rw [h]; exact hwrap s s.st _ hs

/-- From `s` to `t` only registers that `i` is named a writer of have changed, and in the direction it is named for. -/
structure WritesWithin (i : Instr) (s t : State) : Prop where
  mode : writesMode i = false → t.mode = s.mode
  lutSet : setsLut i = false → t.lutLoaded = true → s.lutLoaded = true
  busSet : setsBus i = false → t.busHeld = true → s.busHeld = true
  lutKept : i ≠ .sleep → s.lutLoaded = true → t.lutLoaded = true
  busKept : i ≠ .sleep → s.busHeld = true → t.busHeld = true
  count : writesCount i = false → t.prc = s.prc ∧ t.orchMode = s.orchMode
  record : isUpdate i = false → t.fp = s.fp ∧ t.fpValid = s.fpValid

theorem WritesWithin.refl (i : Instr) (s : State) : WritesWithin i s s :=
  ⟨fun _ => rfl, fun _ h => h, fun _ h => h, fun _ h => h, fun _ h => h, fun _ => ⟨rfl, rfl⟩, fun _ => ⟨rfl, rfl⟩⟩

theorem WritesWithin.trans {i : Instr} {s t u : State} (h : WritesWithin i s t) (k : WritesWithin i t u) :
    WritesWithin i s u where
  mode hi := (k.mode hi).trans (h.mode hi)
  lutSet hi hu := h.lutSet hi (k.lutSet hi hu)
  busSet hi hu := h.busSet hi (k.busSet hi hu)
  lutKept hi hs := k.lutKept hi (h.lutKept hi hs)
  busKept hi hs := k.busKept hi (h.busKept hi hs)
  count hi := ⟨(k.count hi).1.trans (h.count hi).1, (k.count hi).2.trans (h.count hi).2⟩
  record hi := ⟨(k.record hi).1.trans (h.record hi).1, (k.record hi).2.trans (h.record hi).2⟩

/-- `S.st` and the answer are not among those registers. -/
theorem WritesWithin.wrapped {i : Instr} {s t : State} (h : WritesWithin i s t) (v : St) (a : Option Answer) :
    WritesWithin i s { t with st := v, answer := a } :=
  ⟨h.mode, h.lutSet, h.busSet, h.lutKept, h.busKept, h.count, h.record⟩

/-- Acquire writes `S.busHeld` alone, and never clears it (R130). -/
theorem acquire_fields (s : State) :
    (runState (acquire s)).mode = s.mode ∧ (runState (acquire s)).lutLoaded = s.lutLoaded ∧
      (s.busHeld = true → (runState (acquire s)).busHeld = true) ∧ (runState (acquire s)).prc = s.prc ∧
      (runState (acquire s)).orchMode = s.orchMode ∧ (runState (acquire s)).fp = s.fp ∧
      (runState (acquire s)).fpValid = s.fpValid := by
  unfold acquire
  split_ifs with hheld hstatus
  · exact ⟨rfl, rfl, fun h => h, rfl, rfl, rfl, rfl⟩
  · exact ⟨rfl, rfl, fun _ => rfl, rfl, rfl, rfl, rfl⟩
  · exact ⟨rfl, rfl, fun h => h, rfl, rfl, rfl, rfl⟩

/-- Each step of an instruction writes within what the instruction is named for. -/
theorem runAction_writesWithin {i : Instr} {s : State} {a : Action} (h : a ∈ (plan i s).actions) (u : State) :
    WritesWithin i u (runState (runAction a u)) := by
  rcases mem_plan h with hc | ⟨rfl, hi⟩ | ⟨rfl, hi⟩ | ⟨⟨m, rfl⟩, hi⟩ | ⟨rfl, rfl⟩ | ⟨⟨m, rfl⟩, hi⟩ | ⟨⟨d, rfl⟩, hi⟩
  · obtain ⟨hmode, hlut, hbus, hprc, horch, hfp, hvalid⟩ := common_fields hc u
    constructor <;> simp [*]
  · obtain ⟨hmode, hlut, hbus, hprc, horch, hfp, hvalid⟩ := acquire_fields u
    constructor <;> simp_all [runAction]
  · constructor <;> simp [runAction, runState, hi]
  · constructor <;> simp [runAction, runState, hi]
  · constructor <;> simp [runAction, runState, writesMode]
  · constructor <;> simp [runAction, runState, hi]
  · constructor <;> simp [runAction, runState, hi]

theorem exec_writesWithin {i : Instr} {s t : State} (h : exec i s = .next t) : WritesWithin i s t := by
  rw [exec_eq_runPlan] at h
  cases h
  exact runPlan_keeps (fun _ v a hu => hu.wrapped v a) (.refl i s)
    (runAll_keeps (WritesWithin i s) (fun _ ha u hu => hu.trans (runAction_writesWithin ha u)) (.refl i s))

/-- Settles O14: every step of an instruction writes within what the instruction is named for, and the wrapper writes none
of these registers. -/
theorem onlyTheNamedWritersWrite : Obligations.OnlyTheNamedWritersWrite := by
  intro i s t h
  obtain ⟨hmode, hlutSet, hbusSet, hlutKept, hbusKept, hcount, hrecord⟩ := exec_writesWithin h
  exact ⟨hmode, hlutSet, hbusSet, hlutKept, hbusKept, hcount, hrecord⟩

end Sys2Proof.Machine
end

section
/-! PROOFS. Where an instruction may start, and the state of the sequencer it ends in (R24). -/

namespace Sys2Proof.Machine

/-- The entry states of every plan are the row of R24. -/
theorem plan_entry (i : Instr) (s : State) : (plan i s).entry = allowedEntry i := by
  cases i <;> rfl

theorem updateAccepted_iff (m : Mode) (pp : Bool) : updateAccepted m pp = true ↔ (m = .grayscale → pp = false) := by
  cases m <;> simp [updateAccepted]

/-- The precondition every plan tests is the one of R255. -/
theorem plan_accepted_iff {i : Instr} (hi : isHostOp i = true) (s : State) :
    (plan i s).accepted = true ↔ operandsAccepted i s := by
  cases i
  case repack g => simp [plan, planPure, operandsAccepted]
  case loadLut => simp [plan, planSteps, operandsAccepted]
  case refreshFull => simp [plan, planRefresh, planSteps, operandsAccepted, refreshAccepted]
  case refreshFast => simp [plan, planRefresh, planSteps, operandsAccepted, refreshAccepted]
  case refreshGrayscale => simp [plan, planRefresh, planSteps, operandsAccepted, refreshAccepted]
  case updateFull => simp [plan, planUpdate, operandsAccepted, updateAccepted_iff]
  case updateFast => simp [plan, planUpdate, operandsAccepted, updateAccepted_iff]
  case updateGrayscale => simp [plan, planUpdate, operandsAccepted, updateAccepted_iff]
  case wireWriteBwRamPlane1 => cases hi
  case wireWriteBwRamPlane2 => cases hi
  all_goals exact iff_of_true rfl trivial

theorem stAfter_cons (a : Action) (as : List Action) (v : St) : stAfter (a :: as) v = stAfter as (stAfterAction a v) := rfl

theorem stAfter_setWindow (w : Window) (v : St) : stAfter (setWindowActions w) v = v := by
  simp [setWindowActions]

theorem stAfter_setCursor (x : BitVec 10) (y : BitVec 16) (v : St) : stAfter (setCursorActions x y) v = v := by
  simp [setCursorActions]

theorem stAfter_loadLut (c : Config) (v : St) : stAfter (loadLutActions c) v = v := by
  simp [loadLutActions, stAfter_cons, stAfterAction]

theorem stAfter_sleep (c : Config) (v : St) : stAfter (sleepActions c) v = .sleeping := by
  simp [sleepActions, stAfter_cons, stAfterAction]

/-- The end states of UPDATE: Ready once it has transmitted, the entry state when it skips (R229). -/
theorem stAfter_planUpdate (m : Mode) (img : Raster) (pp force : Bool) (s : State) :
    stAfter (planUpdate m img pp force s).actions s.st =
      if (planUpdate m img pp force s).value = .transmitted false then s.st else .ready := by
  cases h : shouldUpdate s (Config.fingerprint img) force <;> simp [planUpdate, h, stAfter_cons, stAfterAction]

/-- Where the steps of a plan lead from one of its entry states. -/
theorem stAfter_plan {i : Instr} {s : State} (h : s.st ∈ allowedEntry i) :
    stAfter (plan i s).actions s.st = endSt i (plan i s).value s.st := by
  have ready : s.st ∈ [St.ready] → s.st = .ready := List.mem_singleton.1
  cases i
  case initFull => exact stAfter_init ..
  case initFast => exact stAfter_init ..
  case initPartial => exact stAfter_init ..
  case initGrayscale => exact stAfter_init ..
  case triggerFull => exact stAfter_trigger ..
  case triggerFast => exact stAfter_trigger ..
  case triggerPartial => exact stAfter_trigger ..
  case triggerGrayscale => exact stAfter_trigger ..
  case refreshFull => exact stAfter_refresh ..
  case refreshFast => exact stAfter_refresh ..
  case refreshGrayscale => exact stAfter_refresh ..
  case updateFull => exact stAfter_planUpdate ..
  case updateFast => exact stAfter_planUpdate ..
  case updateGrayscale => exact stAfter_planUpdate ..
  case setWindow => exact (stAfter_setWindow ..).trans (ready h)
  case setCursor => exact (stAfter_setCursor ..).trans (ready h)
  case loadLut => exact (stAfter_loadLut ..).trans (ready h)
  case sleep => exact stAfter_sleep ..
  case sendCmd => exact ready h
  case sendData => exact ready h
  case sendBulk => exact ready h
  case wireWriteBwRamPlane1 => exact ready h
  case wireWriteBwRamPlane2 => exact ready h
  case encMono => rfl
  case encGray => rfl
  case repack => rfl
  case fpCompute => rfl
  case shouldUpdate => rfl
  case reset => rfl
  case waitIdle => rfl
  all_goals exact (stAfter_wire ..).trans (ready h)

/-- A plan answers OK only when its steps are done. -/
theorem runPlan_ok {p : Plan} {s : State} {v : Value} (h : (runPlan p s).answer = some (.ok v)) :
    s.st ∈ p.entry ∧ p.value = v ∧ ∃ t, runAll p.actions s = .done t ∧ runPlan p s = answerWith (.ok v) t := by
  rcases runPlan_cases p s with ⟨-, hp⟩ | ⟨hs, -, -, t, hrun, hp⟩ | ⟨-, -, -, e, t, -, hp⟩ | ⟨-, -, e, -, hp⟩
  · simp [hp] at h
  · have hv : p.value = v := by simpa [hp] using h
    exact ⟨hs, hv, t, hrun, hv ▸ hp⟩
  · simp [hp] at h
  · simp [hp] at h

/-- A plan answers an error only by an abort, which puts the entry value of `S.st` back (R257). -/
theorem runPlan_error {p : Plan} {s : State} {e : Raise} (h : (runPlan p s).answer = some (.error e)) :
    s.st ∈ p.entry ∧ (runPlan p s).st = s.st := by
  rcases runPlan_cases p s with ⟨-, hp⟩ | ⟨-, -, -, t, -, hp⟩ | ⟨hs, -, -, e', t, -, hp⟩ | ⟨hs, -, e', -, hp⟩
  · simp [hp] at h
  · simp [hp] at h
  · exact ⟨hs, by rw [hp, abort_st]⟩
  · exact ⟨hs, by rw [hp, abort_st]⟩

/-- A plan that starts in an entry state with its operands accepted is not refused. -/
theorem runPlan_runs {p : Plan} {s : State} (hs : s.st ∈ p.entry) (hacc : p.accepted = true) :
    ∃ a, (runPlan p s).answer = some a ∧ a ≠ .refused := by
  rcases runPlan_cases p s with ⟨hno, -⟩ | ⟨-, -, -, t, -, hp⟩ | ⟨-, -, -, e, t, -, hp⟩ | ⟨-, -, e, -, hp⟩
  · simp [hs, hacc] at hno
  · exact ⟨.ok p.value, by rw [hp, answerWith_answer], nofun⟩
  · exact ⟨.error e, by rw [hp, abort_answer], nofun⟩
  · exact ⟨.error e, by rw [hp, abort_answer], nofun⟩

/-- Settles O50: the wrapper refuses outside the entry states, puts the entry value of `S.st` back on a raise, and leaves
the state the steps lead to when they are done. -/
theorem entryAndEndStates : Obligations.EntryAndEndStates := by
  intro i s hi
  rw [exec_eq_runPlan, ← plan_entry i s, ← plan_accepted_iff hi s]
  refine ⟨fun hs => congrArg _ (hostOp_refused (.inl hs)), fun hs hacc => ?_, fun t v ht hans => ?_,
    fun t e ht hans => ?_⟩
  · obtain ⟨a, hans, hne⟩ := runPlan_runs hs hacc
    exact ⟨_, a, rfl, hans, hne⟩
  · cases ht
    obtain ⟨hs, rfl, t, hrun, hp⟩ := runPlan_ok hans
    refine ⟨hs, ?_⟩
    rw [hp, answerWith_st, runAll_done_st hrun]
    exact stAfter_plan (plan_entry i s ▸ hs)
  · cases ht
    exact runPlan_error hans

end Sys2Proof.Machine
end

section
/-! PROOFS. What the trace tells: the bus handle and the latches follow from the events, and every transfer is framed (R19,
R26, R131). -/

namespace Sys2Proof.Machine

theorem heldFrom_append (b : Bool) (xs ys : List Event) : heldFrom b (xs ++ ys) = heldFrom (heldFrom b xs) ys := by
  induction xs generalizing b with
  | nil => rfl
  | cons e xs ih => cases e <;> exact ih _

theorem latchFrom_append (p : OutPin) (l : Option Level) (xs ys : List Event) :
    latchFrom p l (xs ++ ys) = latchFrom p (latchFrom p l xs) ys := by
  induction xs generalizing l with
  | nil => rfl
  | cons e xs ih => cases e <;> exact ih _

/-- Framing reads on from the levels of DC and CS that the events before leave. -/
theorem transfersFramed_append (dc cs : Option Level) (xs ys : List Event) :
    transfersFramed dc cs (xs ++ ys) =
      (transfersFramed dc cs xs && transfersFramed (latchFrom .dc dc xs) (latchFrom .cs cs xs) ys) := by
  induction xs generalizing dc cs with
  | nil => rfl
  | cons e xs ih =>
    cases e with
    | write p l => cases p <;> exact ih _ _
    | xfer bs => simp [transfersFramed, latchFrom, ih, Bool.and_assoc]
    | xferFail bs => simp [transfersFramed, latchFrom, ih, Bool.and_assoc]
    | readBusy l => exact ih _ _
    | delay n => exact ih _ _
    | modInit n => exact ih _ _
    | modExit => exact ih _ _

/-- From `s` to `t` the trace has gained `evs`, and these tell the new bus handle and latches from the old ones; every
transfer among them is framed. -/
structure Records (evs : List Event) (s t : State) : Prop where
  trace : t.trace = s.trace ++ evs
  handle : t.busHeld = heldFrom s.busHeld evs
  rst : t.pinRst = latchFrom .rst s.pinRst evs
  dc : t.pinDc = latchFrom .dc s.pinDc evs
  cs : t.pinCs = latchFrom .cs s.pinCs evs
  framed : transfersFramed s.pinDc s.pinCs evs = true

theorem Records.refl (s : State) : Records [] s s :=
  ⟨(List.append_nil _).symm, rfl, rfl, rfl, rfl, rfl⟩

theorem Records.trans {xs ys : List Event} {s t u : State} (h : Records xs s t) (k : Records ys t u) :
    Records (xs ++ ys) s u where
  trace := by rw [k.trace, h.trace, List.append_assoc]
  handle := by rw [k.handle, h.handle, heldFrom_append]
  rst := by rw [k.rst, h.rst, latchFrom_append]
  dc := by rw [k.dc, h.dc, latchFrom_append]
  cs := by rw [k.cs, h.cs, latchFrom_append]
  framed := by rw [transfersFramed_append, h.framed, ← h.dc, ← h.cs, k.framed]; rfl

/-- The wrapper's own writes are not recorded. -/
theorem Records.wrapped {evs : List Event} {s t : State} (h : Records evs s t) (v : St) (a : Option Answer) :
    Records evs s { t with st := v, answer := a } :=
  ⟨h.trace, h.handle, h.rst, h.dc, h.cs, h.framed⟩

theorem send_records (d : St) (l : Level) (bs : List Byte) (s : State) :
    ∃ evs, Records evs s (runState (send d l bs s)) := by
  cases h : spiSucceeds s with
  | true => rw [send_ok d l bs s h]; exact ⟨evTransfer l bs, rfl, rfl, rfl, rfl, rfl, rfl⟩
  | false => rw [send_fail d l bs s h]; exact ⟨evFailed l bs, rfl, rfl, rfl, rfl, rfl, rfl⟩

theorem pinReadBusy_records (s : State) : Records [.readBusy (busyLevel s)] s (pinReadBusy s) :=
  ⟨rfl, rfl, rfl, rfl, rfl, rfl⟩

theorem delayMs_records (n : Nat) (s : State) : Records [.delay n] s (delayMs n s) :=
  ⟨rfl, rfl, rfl, rfl, rfl, rfl⟩

/-- One sample of BUSY and the delay after it (R140). -/
theorem sample_records (poll : Nat) (s : State) :
    Records [.readBusy (busyLevel s), .delay poll] s (delayMs poll (pinReadBusy s)) :=
  (pinReadBusy_records s).trans (delayMs_records poll _)

theorem pollLoop_records (poll more n : Nat) (s : State) :
    ∃ evs, Records evs s (runState (pollLoop poll more n s)) := by
  induction more generalizing n s with
  | zero =>
    unfold pollLoop
    split
    · exact ⟨_, (sample_records poll s).wrapped .ready s.answer⟩
    · exact ⟨_, pinReadBusy_records s⟩
  | succ k ih =>
    unfold pollLoop
    split
    · exact ⟨_, (sample_records poll s).wrapped .ready s.answer⟩
    · obtain ⟨evs, hrest⟩ := ih (n + 1) (delayMs poll (pinReadBusy s))
      exact ⟨_, (sample_records poll s).trans hrest⟩

theorem waitIdle_records (poll : Nat) (s : State) : ∃ evs, Records evs s (runState (waitIdleHelper poll s)) := by
  obtain ⟨evs, h⟩ := pollLoop_records poll s.cfg.pollsAfterFirst 0 (setSt .awaitingBusyClear s)
  exact ⟨evs, h.trace, h.handle, h.rst, h.dc, h.cs, h.framed⟩

theorem acquire_records (s : State) : ∃ evs, Records evs s (runState (acquire s)) := by
  unfold acquire
  split_ifs with hheld hstatus
  · exact ⟨[], .refl s⟩
  · exact ⟨[.modInit (modInitStatus s)], rfl, (if_pos hstatus).symm, rfl, rfl, rfl, rfl⟩
  · exact ⟨[.modInit (modInitStatus s)], rfl, (if_neg hstatus).symm, rfl, rfl, rfl, rfl⟩

/-- Every step records what it does to the bus handle and the latches. -/
theorem runAction_records (a : Action) (s : State) : ∃ evs, Records evs s (runState (runAction a s)) := by
  have silent : ∀ {t : State}, t.trace = s.trace → t.busHeld = s.busHeld → t.pinRst = s.pinRst → t.pinDc = s.pinDc →
      t.pinCs = s.pinCs → ∃ evs, Records evs s t :=
    fun htrace hbus hrst hdc hcs => ⟨[], by simp [htrace], hbus, hrst, hdc, hcs, rfl⟩
  cases a with
  | acquire => exact acquire_records s
  | resetPulse => exact ⟨evPulse, resetPulse_trace s, rfl, rfl, rfl, rfl, rfl⟩
  | waitIdle poll => exact waitIdle_records poll s
  | sendCmd op => exact send_records _ _ _ s
  | sendData b => exact send_records _ _ _ s
  | sendBulk bs => exact send_records _ _ _ s
  | beginTrigger => exact silent rfl rfl rfl rfl rfl
  | markLutLoaded => exact silent rfl rfl rfl rfl rfl
  | setMode m => exact silent rfl rfl rfl rfl rfl
  | delay n => exact ⟨[.delay n], rfl, rfl, rfl, rfl, rfl, rfl⟩
  | endSession => exact ⟨[.modExit], rfl, rfl, rfl, rfl, rfl, rfl⟩
  | countRefresh m => cases m <;> exact silent rfl rfl rfl rfl rfl
  | store d => exact silent rfl rfl rfl rfl rfl

/-- Every instruction records what it does to the bus handle and the latches, whatever its answer. -/
theorem exec_records {i : Instr} {s t : State} (h : exec i s = .next t) : ∃ evs, Records evs s t := by
  rw [exec_eq_runPlan] at h
  cases h
  have start : ∃ evs, Records evs s s := ⟨[], .refl s⟩
  refine runPlan_keeps (P := fun u => ∃ evs, Records evs s u) (fun _ v a ⟨evs, hu⟩ => ⟨evs, hu.wrapped v a⟩) start
    (runAll_keeps (fun u => ∃ evs, Records evs s u) (fun a _ u ⟨xs, hu⟩ => ?_) start)
  obtain ⟨ys, hstep⟩ := runAction_records a u
  exact ⟨xs ++ ys, hu.trans hstep⟩

end Sys2Proof.Machine
end

section
/-! PROOFS. The refresh counter stays within its limit (R20, R221, R224). -/

namespace Sys2Proof.Machine

/-- UpdateCount is the only step that writes the count. -/
theorem runAction_prc {a : Action} (h : ∀ m, a ≠ .countRefresh m) (s : State) :
    (runState (runAction a s)).prc = s.prc := by
  cases hcommon : a.common with
  | true => obtain ⟨-, -, -, hprc, -⟩ := common_fields hcommon s; exact hprc
  | false =>
    cases a with
    | countRefresh m => exact absurd rfl (h m)
    | acquire => obtain ⟨-, -, -, hprc, -⟩ := acquire_fields s; exact hprc
    | markLutLoaded => rfl
    | setMode m => rfl
    | endSession => rfl
    | store d => rfl
    | _ => cases hcommon

theorem runAll_prc {as : List Action} (h : ∀ a ∈ as, ∀ m, a ≠ .countRefresh m) (s : State) :
    (runState (runAll as s)).prc = s.prc :=
  runAll_keeps (fun u => u.prc = s.prc) (fun a ha u hu => (runAction_prc (h a ha) u).trans hu) rfl

theorem mem_frameTransfers_common {a : Action} {c : Config} {m : Mode} {buf : List Byte}
    (h : a ∈ frameTransfers c m buf) : a.common = true := by
  cases m with
  | grayscale => rcases List.mem_append.1 h with h | h <;> exact mem_frameActions_common h
  | full => exact mem_frameActions_common h
  | fast => exact mem_frameActions_common h
  | part => exact mem_frameActions_common h

/-- No step of a refresh before its last one is an UpdateCount (R220). -/
theorem ne_countRefresh_of_mem {a : Action} {c : Config} {loaded : Bool} {m : Mode} {buf : List Byte}
    (h : a ∈ initActions c loaded m ++ frameTransfers c m buf ++ triggerActions m) (k : Mode) : a ≠ .countRefresh k := by
  rintro rfl
  simp only [List.mem_append] at h
  rcases h with (h | h) | h
  · have := mem_initActions h
    simp [Action.common] at this
  · cases mem_frameTransfers_common h
  · cases mem_triggerActions_common h

/-- A refresh that raised has left the count, one that was done has counted once (R220, R225). -/
theorem runAll_refresh_prc (c : Config) (loaded : Bool) (m : Mode) (buf : List Byte) (s : State) :
    (runState (runAll (refreshActions c loaded m buf) s)).prc = s.prc ∨
      (runState (runAll (refreshActions c loaded m buf) s)).prc = countAfter m s.prc := by
  have hfront := runAll_prc (fun a ha k => ne_countRefresh_of_mem (c := c) (loaded := loaded) (m := m) (buf := buf) ha k) s
  unfold refreshActions
  rcases runAll_append_cases (as := initActions c loaded m ++ frameTransfers c m buf ++ triggerActions m)
    (bs := [.countRefresh m]) (s := s) with ⟨u, hrun, happ⟩ | ⟨e, u, hrun, happ⟩
  · rw [hrun] at hfront
    rw [happ, ← hfront]
    exact .inr (updateCount_prc m u)
  · rw [hrun] at hfront
    rw [happ]
    exact .inl hfront

/-- Partial is chosen only below the limit, so counting the chosen mode does not pass it (R221, R224). -/
theorem countAfter_selectMode_le {s : State} {m : Mode} (hm : m ≠ .part) (pp : Bool)
    (h : s.prc.toNat ≤ s.cfg.partialLimit.toNat) :
    (countAfter (selectMode s m pp) s.prc).toNat ≤ s.cfg.partialLimit.toNat := by
  rcases selectMode_cases s m pp with ⟨hpart, -, hlt⟩ | hsame
  · rw [hpart]
    simp only [countAfter]
    bv_omega
  · rw [hsame]
    cases m with
    | full => exact Nat.zero_le _
    | part => exact absurd rfl hm
    | fast => exact h
    | grayscale => exact h

theorem refresh_prc_le {s : State} {m : Mode} (hm : m ≠ .part) (buf : List Byte) (pp : Bool)
    (h : s.prc.toNat ≤ s.cfg.partialLimit.toNat) :
    (runState (runAll (refreshActions s.cfg s.lutLoaded (selectMode s m pp) buf) s)).prc.toNat ≤
      s.cfg.partialLimit.toNat := by
  rcases runAll_refresh_prc s.cfg s.lutLoaded (selectMode s m pp) buf s with hprc | hprc
  · rw [hprc]; exact h
  · rw [hprc]; exact countAfter_selectMode_le hm pp h

theorem update_prc_le {s : State} {m : Mode} (hm : m ≠ .part) (img : Raster) (pp force : Bool)
    (h : s.prc.toNat ≤ s.cfg.partialLimit.toNat) :
    (runState (runAll (planUpdate m img pp force s).actions s)).prc.toNat ≤ s.cfg.partialLimit.toNat := by
  unfold planUpdate
  split
  · have hrefresh := refresh_prc_le hm (encodedBuffer s.cfg img (encodeFor m)) pp h
    rcases runAll_append_cases
      (as := refreshActions s.cfg s.lutLoaded (selectMode s m pp) (encodedBuffer s.cfg img (encodeFor m)))
      (bs := [.store (Config.fingerprint img)]) (s := s) with ⟨u, hrun, happ⟩ | ⟨e, u, hrun, happ⟩
    · rw [hrun] at hrefresh; rw [happ]; exact hrefresh
    · rw [hrun] at hrefresh; rw [happ]; exact hrefresh
  · exact h

theorem exec_prc_le {i : Instr} {s t : State} (h : exec i s = .next t) (hcount : s.prc.toNat ≤ s.cfg.partialLimit.toNat) :
    t.prc.toNat ≤ s.cfg.partialLimit.toNat := by
  cases hw : writesCount i with
  | false => rw [((exec_writesWithin h).count hw).1]; exact hcount
  | true =>
    rw [exec_eq_runPlan] at h
    cases h
    refine runPlan_keeps (P := fun u => u.prc.toNat ≤ s.cfg.partialLimit.toNat) (fun _ _ _ hu => hu) hcount ?_
    cases i
    case refreshFull => exact refresh_prc_le (by decide) _ _ hcount
    case refreshFast => exact refresh_prc_le (by decide) _ _ hcount
    case refreshGrayscale => exact refresh_prc_le (by decide) _ _ hcount
    case updateFull => exact update_prc_le (by decide) _ _ _ hcount
    case updateFast => exact update_prc_le (by decide) _ _ _ hcount
    case updateGrayscale => exact update_prc_le (by decide) _ _ _ hcount
    all_goals cases hw

end Sys2Proof.Machine
end

section
/-! PROOFS. The session: what an instruction does to the bus and to the flags that hang on it (R15, R19, R24, R188). -/

namespace Sys2Proof.Machine

/-- The session's registers and `S.st` are as they were. -/
structure SameSession (s t : State) : Prop where
  st : t.st = s.st
  bus : t.busHeld = s.busHeld
  lut : t.lutLoaded = s.lutLoaded
  mode : t.mode = s.mode

theorem planUpdate_starts (m : Mode) (img : Raster) (pp force : Bool) (s : State) :
    (planUpdate m img pp force s).actions = [] ∨ ∃ rest, (planUpdate m img pp force s).actions = .acquire :: rest := by
  unfold planUpdate
  split
  · exact .inr ⟨_, rfl⟩
  · exact .inl rfl

/-- Where the bus need not be held, an instruction that runs takes it first or has no steps. -/
theorem plan_starts {i : Instr} {s : State} (h : s.st ∈ allowedEntry i) (hidle : s.st ∉ entryWait) :
    (plan i s).actions = [] ∨ ∃ rest, (plan i s).actions = .acquire :: rest := by
  have ready : s.st ∉ [St.ready] := fun h => hidle (by simp [List.mem_singleton.1 h, entryWait])
  cases i
  case encMono => exact .inl rfl
  case encGray => exact .inl rfl
  case repack => exact .inl rfl
  case fpCompute => exact .inl rfl
  case shouldUpdate => exact .inl rfl
  case reset => exact .inr ⟨_, rfl⟩
  case initFull => exact .inr ⟨_, rfl⟩
  case initFast => exact .inr ⟨_, rfl⟩
  case initPartial => exact .inr ⟨_, rfl⟩
  case initGrayscale => exact .inr ⟨_, rfl⟩
  case refreshFull => exact .inr ⟨_, rfl⟩
  case refreshFast => exact .inr ⟨_, rfl⟩
  case refreshGrayscale => exact .inr ⟨_, rfl⟩
  case updateFull img pp force => exact planUpdate_starts ..
  case updateFast img pp force => exact planUpdate_starts ..
  case updateGrayscale img pp force => exact planUpdate_starts ..
  case waitIdle => exact absurd h hidle
  all_goals exact absurd h ready

/-- Steps that begin with Acquire go on with the bus held, or end there (R130). -/
theorem runAll_acquire_cases (rest : List Action) (s : State) :
    (∃ u, u.busHeld = true ∧ runAll (.acquire :: rest) s = runAll rest u) ∨
      ∃ e, runAll (.acquire :: rest) s = .raised e (modInitCall s) := by
  by_cases htakes : busTakes s
  · refine .inl ⟨tookBus s, ?_, runAll_cons_done (acquire_ok s htakes)⟩
    unfold tookBus
    split
    · assumption
    · rfl
  · exact .inr ⟨_, runAll_cons_raised (acquire_fail s htakes)⟩

/-- The steps of every instruction but SLEEP keep the bus (R19, R296). -/
theorem runAll_keeps_bus {i : Instr} {s u : State} {as : List Action} (hi : i ≠ .sleep)
    (has : ∀ a ∈ as, a ∈ (plan i s).actions) (hu : u.busHeld = true) : (runState (runAll as u)).busHeld = true :=
  runAll_keeps (fun v => v.busHeld = true) (fun a ha v hv => (runAction_writesWithin (has a ha) v).busKept hi hv) hu

/-- Outside the states that need the bus, the steps of an instruction end with the bus held or leave the registers alone. -/
theorem runAll_plan_takes_or_same {i : Instr} {s : State} (h : s.st ∈ allowedEntry i) (hidle : s.st ∉ entryWait) :
    (runState (runAll (plan i s).actions s)).busHeld = true ∨ SameSession s (runState (runAll (plan i s).actions s)) := by
  have hi : i ≠ .sleep := by
    rintro rfl
    exact hidle (by simp [List.mem_singleton.1 h, entryWait])
  rcases plan_starts h hidle with hnil | ⟨rest, hcons⟩
  · rw [hnil]; exact .inr ⟨rfl, rfl, rfl, rfl⟩
  · rw [hcons]
    rcases runAll_acquire_cases rest s with ⟨u, hu, hrun⟩ | ⟨e, hrun⟩
    · rw [hrun]; exact .inl (runAll_keeps_bus (s := s) hi (fun a ha => by rw [hcons]; exact .tail _ ha) hu)
    · rw [hrun]; exact .inr ⟨rfl, rfl, rfl, rfl⟩

/-- Outside the states that need the bus, an instruction takes it or leaves the session alone. -/
theorem exec_takes_or_same {i : Instr} {s t : State} (h : exec i s = .next t) (hidle : s.st ∉ entryWait) :
    t.busHeld = true ∨ SameSession s t := by
  rw [exec_eq_runPlan] at h
  cases h
  rcases runPlan_cases (plan i s) s with ⟨-, h⟩ | ⟨hs, -, -, t, hrun, h⟩ | ⟨hs, -, -, e, t, hrun, h⟩ | ⟨-, -, e, -, h⟩
  · rw [h]; exact .inr ⟨rfl, rfl, rfl, rfl⟩
  · have := runAll_plan_takes_or_same (plan_entry i s ▸ hs) hidle
    rw [hrun] at this
    rw [h]
    exact this.imp id fun hsame => ⟨hsame.st, hsame.bus, hsame.lut, hsame.mode⟩
  · have := runAll_plan_takes_or_same (plan_entry i s ▸ hs) hidle
    rw [hrun] at this
    rw [h]
    exact this.imp id fun hsame => ⟨rfl, hsame.bus, hsame.lut, hsame.mode⟩
  · rw [h]; exact .inr ⟨rfl, rfl, rfl, rfl⟩

/-- The steps of SLEEP end the session as their last act, or a transfer before it raises (R188). -/
theorem runAll_sleep_cases (c : Config) (s : State) :
    (∃ u, runAll (sleepActions c) s = .done (endSession (modExitCall u))) ∨
      ∃ e u, runAll (sleepActions c) s = .raised e u ∧
        u.busHeld = s.busHeld ∧ u.lutLoaded = s.lutLoaded ∧ u.mode = s.mode := by
  have hfront : ∀ a ∈ wireActions cmdDeepSleep ++ [.delay c.sleepDelayMs], a.common = true := by
    intro a ha
    rcases List.mem_append.1 ha with ha | ha
    · exact mem_wireActions_common ha
    · rw [List.mem_singleton.1 ha]; rfl
  have hkept := runAll_keeps (fun u => u.busHeld = s.busHeld ∧ u.lutLoaded = s.lutLoaded ∧ u.mode = s.mode)
    (fun a ha u ⟨hbus, hlut, hmode⟩ => by
      obtain ⟨kmode, klut, kbus, -⟩ := common_fields (hfront a ha) u
      exact ⟨kbus.trans hbus, klut.trans hlut, kmode.trans hmode⟩) (s := s) ⟨rfl, rfl, rfl⟩
  have hsplit : sleepActions c = (wireActions cmdDeepSleep ++ [.delay c.sleepDelayMs]) ++ [.endSession] := by
    simp [sleepActions]
  rw [hsplit]
  rcases runAll_append_cases (as := wireActions cmdDeepSleep ++ [.delay c.sleepDelayMs]) (bs := [.endSession]) (s := s)
    with ⟨u, -, happ⟩ | ⟨e, u, hrun, happ⟩
  · exact .inl ⟨u, happ⟩
  · rw [hrun] at hkept
    exact .inr ⟨e, u, happ, hkept⟩

/-- SLEEP ends the session, or leaves it alone when it is refused or aborts (R188, R257). -/
theorem exec_sleep_cases {s t : State} (h : exec .sleep s = .next t) :
    (t.st = .sleeping ∧ t.lutLoaded = false ∧ t.mode = none) ∨ SameSession s t := by
  rw [exec_eq_runPlan] at h
  cases h
  rcases runPlan_cases (plan .sleep s) s with ⟨-, h⟩ | ⟨-, -, -, t, hrun, h⟩ | ⟨-, -, -, e, t, hrun, h⟩ | ⟨-, -, e, he, -⟩
  · rw [h]; exact .inr ⟨rfl, rfl, rfl, rfl⟩
  · rcases runAll_sleep_cases s.cfg s with ⟨u, hdone⟩ | ⟨e, u, hraised, -⟩
    · cases hrun.symm.trans hdone
      rw [h]; exact .inl ⟨rfl, rfl, rfl⟩
    · cases hrun.symm.trans hraised
  · rcases runAll_sleep_cases s.cfg s with ⟨u, hdone⟩ | ⟨e', u, hraised, hbus, hlut, hmode⟩
    · cases hrun.symm.trans hdone
    · cases hrun.symm.trans hraised
      rw [h]; exact .inr ⟨rfl, hbus, hlut, hmode⟩
  · cases he

/-- An instruction ends with the bus held, leaves the session alone, or, as SLEEP, ends it. -/
theorem exec_session_cases {i : Instr} {s t : State} (h : exec i s = .next t)
    (hheld : s.st ∈ entryWait → s.busHeld = true) :
    t.busHeld = true ∨ SameSession s t ∨ (t.st = .sleeping ∧ t.lutLoaded = false ∧ t.mode = none) := by
  by_cases hidle : s.st ∈ entryWait
  · by_cases hi : i = .sleep
    · subst hi
      exact .inr (exec_sleep_cases h).symm
    · exact .inl ((exec_writesWithin h).busKept hi (hheld hidle))
  · exact (exec_takes_or_same h hidle).imp id .inl

end Sys2Proof.Machine
end

section
/-! PROOFS. The invariant: at reset and after a restart, under every instruction, and so under every step (R16, R19, R20,
R26, R33). -/

namespace Sys2Proof.Machine

/-- Operations that answer OK leave a visible state, or the entry state. -/
theorem endSt_cases (i : Instr) (v : Value) (st : St) :
    endSt i v st = st ∨ endSt i v st = .awaitingBusyClear ∨ endSt i v st = .ready ∨ endSt i v st = .sleeping := by
  unfold endSt
  split
  case h_8 | h_9 | h_10 => split <;> simp
  all_goals simp

/-- `S.st` at the end of an instruction: the entry value, or the end state of its row (R24, R257). -/
theorem exec_st {i : Instr} {s t : State} (h : exec i s = .next t) : t.st = s.st ∨ ∃ v, t.st = endSt i v s.st := by
  rw [exec_eq_runPlan] at h
  cases h
  rcases runPlan_cases (plan i s) s with ⟨-, h⟩ | ⟨hs, -, -, t, hrun, h⟩ | ⟨-, -, -, e, t, -, h⟩ | ⟨-, -, e, -, h⟩
  · rw [h]; exact .inl rfl
  · rw [h, answerWith_st, runAll_done_st hrun]
    exact .inr ⟨_, stAfter_plan (plan_entry i s ▸ hs)⟩
  · rw [h]; exact .inl rfl
  · rw [h]; exact .inl rfl

theorem mem_entryWait {v : St} : v ∈ entryWait ↔ v = .awaitingBusyClear ∨ v = .ready := by
  simp [entryWait]

/-- Taking a request and writing an answer touch nothing the invariant speaks of. -/
theorem Inv.withInboxAnswer {s : State} (h : Inv s) (rs : List Request) (a : Option Answer) :
    Inv { s with inbox := rs, answer := a } :=
  ⟨h.visible, h.held, h.count, h.session, h.handle, h.rst, h.dc, h.cs, h.framed⟩

theorem inv_restartCore (s : State) : Inv (restartCore s) where
  visible := .inl rfl
  held h := by rcases h with h | h <;> cases h
  count := Nat.zero_le _
  session _ := ⟨rfl, rfl⟩
  handle := rfl
  rst := rfl
  dc := rfl
  cs := rfl
  framed := rfl

/-- Every instruction keeps the invariant. -/
theorem exec_keeps_inv {i : Instr} {s t : State} (hinv : Inv s) (h : exec i s = .next t) : Inv t := by
  obtain ⟨evs, hrec⟩ := exec_records h
  obtain ⟨hcfg, -, -⟩ := traceOnlyGrows i s t h
  have hsession := exec_session_cases h fun hst => hinv.held (mem_entryWait.1 hst)
  exact {
    visible := by
      have hvis := hinv.visible
      rcases exec_st h with hst | ⟨v, hst⟩
      · rw [hst]; exact hvis
      · rcases endSt_cases i v s.st with hend | hend | hend | hend
        · rw [hst, hend]; exact hvis
        · exact .inr (.inl (hst.trans hend))
        · exact .inr (.inr (.inl (hst.trans hend)))
        · exact .inr (.inr (.inr (hst.trans hend)))
    held := by
      rcases hsession with hbus | hsame | ⟨hst, -, -⟩
      · exact fun _ => hbus
      · rw [hsame.st, hsame.bus]; exact hinv.held
      · rw [hst]; rintro (h | h) <;> cases h
    count := by
      rw [hcfg]
      exact exec_prc_le h hinv.count
    session := by
      rcases hsession with hbus | hsame | ⟨-, hlut, hmode⟩
      · simp [hbus]
      · rw [hsame.bus, hsame.lut, hsame.mode]; exact hinv.session
      · exact fun _ => ⟨hlut, hmode⟩
    handle := by rw [hrec.trace, heldFrom_append, ← hinv.handle]; exact hrec.handle
    rst := by rw [hrec.trace, latchFrom_append, ← hinv.rst]; exact hrec.rst
    dc := by rw [hrec.trace, latchFrom_append, ← hinv.dc]; exact hrec.dc
    cs := by rw [hrec.trace, latchFrom_append, ← hinv.cs]; exact hrec.cs
    framed := by
      rw [hrec.trace, transfersFramed_append, ← hinv.dc, ← hinv.cs, hinv.framed]
      exact hrec.framed }

/-- Everything a step that goes on can do. -/
theorem step_cases {s t : State} (h : step s = .next t) :
    t = s ∨ t = restartCore (takeRequest s) ∨ t = refuse (takeRequest s) ∨ ∃ i, exec i (takeRequest s) = .next t := by
  cases hinbox : s.inbox with
  | nil =>
    simp only [step, fetch, hinbox] at h
    cases h
    exact .inl rfl
  | cons r rest =>
    cases hdecode : decodeRequest r with
    | none =>
      simp only [step, fetch, hinbox, hdecode] at h
      cases h
      exact .inr (.inl rfl)
    | some d =>
      cases d with
      | reject why =>
        simp only [step, fetch, hinbox, hdecode] at h
        cases h
        exact .inr (.inr (.inl rfl))
      | instr i =>
        simp only [step, fetch, hinbox, hdecode, runInstr] at h
        split at h
        · exact .inr (.inr (.inr ⟨i, h⟩))
        · cases h

/-- Settles O9: the state after reset is one a restart leaves. -/
theorem invariantAtReset : Obligations.InvariantAtReset :=
  inv_restartCore State.reset

/-- Settles O10: a step idles, restarts, refuses, or runs an instruction, and each keeps the invariant. -/
theorem stepKeepsInvariant : Obligations.StepKeepsInvariant := by
  intro s t hinv h
  have htaken : Inv (takeRequest s) := hinv.withInboxAnswer s.inbox.tail s.answer
  rcases step_cases h with rfl | rfl | rfl | ⟨i, hexec⟩
  · exact hinv
  · exact inv_restartCore _
  · exact htaken.withInboxAnswer s.inbox.tail (some .refused)
  · exact exec_keeps_inv htaken hexec

/-- A request that decodes to an instruction is fetched as it, and taken off the inbox. -/
theorem fetch_of_instr {s : State} {r : Request} {rest : List Request} {i : Instr} (hinbox : s.inbox = r :: rest)
    (hdecode : decodeRequest r = some (.instr i)) : fetch s = .run i { s with inbox := rest } := by
  simp [fetch, hinbox, hdecode, takeRequest]

/-- Settles O11: the instruction is fetched, and runs because it is well formed. -/
theorem stepRunsDecodedInstruction : Obligations.StepRunsDecodedInstruction := by
  intro s r rest i hinbox hdecode hwf
  simp [step, fetch_of_instr hinbox hdecode, runInstr, hwf]

/-- Settles O8: the reset values are those of R33, and with an empty inbox a step idles. -/
theorem resetLeavesTheTable : Obligations.ResetLeavesTheTable :=
  ⟨rfl, rfl, rfl, rfl, rfl, rfl, rfl, rfl, rfl, rfl, rfl, rfl⟩

end Sys2Proof.Machine
end

section
/-! PROOFS. The operations without steps: an instruction whose plan takes no step answers and touches nothing else (R58,
R112, R226, R227). -/

namespace Sys2Proof.Machine

/-- Without steps a plan is refused, raises before its first step or answers its value, and each writes the answer alone. -/
theorem runPlan_of_no_steps {p : Plan} (hsteps : p.actions = []) (s : State) :
    ∃ a, runPlan p s = { s with answer := some a } := by
  rcases runPlan_cases p s with ⟨-, h⟩ | ⟨-, -, -, t, hrun, h⟩ | ⟨-, -, -, e, t, hrun, -⟩ | ⟨-, -, e, -, h⟩
  · exact ⟨.refused, h⟩
  · rw [hsteps] at hrun
    cases hrun
    exact ⟨.ok p.value, h⟩
  · rw [hsteps] at hrun
    cases hrun
  · exact ⟨.error e, h⟩

/-- An instruction whose plan has no steps changes nothing but the answer. -/
theorem exec_of_no_steps {i : Instr} {s : State} (hsteps : (plan i s).actions = []) :
    ∃ a, exec i s = .next { s with answer := some a } := by
  obtain ⟨a, h⟩ := runPlan_of_no_steps hsteps s
  exact ⟨a, by rw [exec_eq_runPlan, h]⟩

/-- Settles O22: the plan of each of the five operations has no steps. -/
theorem pureOperationsTouchNothing : Obligations.PureOperationsTouchNothing := by
  rintro i s (⟨img, rfl⟩ | ⟨img, rfl⟩ | ⟨g, rfl⟩ | ⟨img, rfl⟩ | ⟨fp, force, rfl⟩)
  · exact exec_of_no_steps rfl
  · exact exec_of_no_steps rfl
  · exact exec_of_no_steps rfl
  · exact exec_of_no_steps rfl
  · exact exec_of_no_steps rfl

end Sys2Proof.Machine
end

section
/-! PROOFS. The bytes of the wire commands: the fields of an address, the payload of every command, and the cutting of a
stream (R74 to R84). -/

namespace Sys2Proof

/-! ### Reading fields back (R76, R77) -/

/-- A word is its high part put before its low byte. -/
theorem high_append_lo8 {m : Nat} (v : BitVec (m + 8)) : (v >>> 8).setWidth m ++ lo8 v = v := by
  ext k hk
  simp only [lo8, BitVec.getElem_append]
  split
  next h => simp [← BitVec.getLsbD_eq_getElem, h]
  next h =>
    have hm : k - 8 < m := by omega
    simp [← BitVec.getLsbD_eq_getElem, hm, Nat.add_sub_cancel' (Nat.le_of_not_lt h)]

/-- Bits 7 to 2 of the high byte of an X value are 0, and the other two are its bits 9 and 8 (R8). -/
theorem hi2_fields (x : BitVec 10) : hi2 x >>> 2 = 0 ∧ (hi2 x).setWidth 2 = (x >>> 8).setWidth 2 := by
  constructor
  · ext k hk
    interval_cases k <;> simp [hi2]
  · ext k hk
    interval_cases k <;> simp [hi2]

@[simp] theorem joinX_lo8_hi2 (x : BitVec 10) : joinX (lo8 x) (hi2 x) = some x := by
  obtain ⟨hzero, hbits⟩ := hi2_fields x
  rw [joinX, if_pos hzero, hbits, high_append_lo8]

@[simp] theorem joinY_lo8_hi8 (y : BitVec 16) : joinY (lo8 y) (hi8 y) = y :=
  high_append_lo8 y

/-! ### Reading payloads back (R75 to R84) -/

theorem parseFixed_self (p : List Byte) (i : Instr) : parseFixed p p i = some i := if_pos rfl

theorem parseFrame_of_length {c : Config} {p : List Byte} (h : p.length = Machine.monoLen c) (i : Instr) :
    parseFrame c p i = some i := if_pos h

theorem parseXWindow_cmd (x0 x1 : BitVec 10) :
    parseXWindow (cmdXWindow x0 x1).payload = some (.wireSetRamXWindow x0 x1) := by
  simp [cmdXWindow, parseXWindow]

theorem parseYWindow_cmd (y0 y1 : BitVec 16) :
    parseYWindow (cmdYWindow y0 y1).payload = some (.wireSetRamYWindow y0 y1) := by
  simp [cmdYWindow, parseYWindow]

theorem parseXCounter_cmd (x : BitVec 10) :
    parseXCounter (cmdXCounter x).payload = some (.wireSetRamXAddrCounter x) := by
  simp [cmdXCounter, parseXCounter]

theorem parseYCounter_cmd (y : BitVec 16) :
    parseYCounter (cmdYCounter y).payload = some (.wireSetRamYAddrCounter y) := by
  simp [cmdYCounter, parseYCounter]

theorem parseBorder_cmd (b : Border) : parseBorder (cmdBorder b).payload = some (.wireBorderWaveform b) := by
  cases b <;> rfl

theorem parseUpdateControl_cmd (u : UpdateControl) :
    parseUpdateControl (cmdUpdateControl u).payload = some (.wireDisplayUpdateControl2 u) := by
  cases u <;> rfl

/-- A command is read by the reader of its opcode. -/
theorem parseWire_of_reader {c : Config} {w : WireCommand} {r : Option Instr}
    (h : (payloadReaders c w.payload).lookup w.op = some r) : parseWire c w = r := by
  simp [parseWire, h]

/-- Settles O6: each command is read by the reader of its opcode, and that reader gives the operands back. -/
theorem wireBytesReadBack : Obligations.WireBytesReadBack := by
  intro c i w hw hlen
  cases i
  case wireDataEntryMode | wireResetDeepSleep | wireBoosterSoftStart | wireTempSensorSelect | wireMasterActivation |
      wireWriteLutRegister | wireDeepSleep =>
    cases hw
    exact (parseWire_of_reader rfl).trans (parseFixed_self _ _)
  case wireDriverOutputControl | wireGateLineEnd | wireGateDrivingVoltage | wireVcomRegister =>
    cases hw
    simp only [Machine.cmdDriverOutput_eq, Machine.cmdGateLineEnd_eq, Machine.cmdGateVoltage_eq, Machine.cmdVcom_eq]
    exact (parseWire_of_reader rfl).trans (parseFixed_self _ _)
  case wireSetRamXWindow x0 x1 => cases hw; exact (parseWire_of_reader rfl).trans (parseXWindow_cmd x0 x1)
  case wireSetRamYWindow y0 y1 => cases hw; exact (parseWire_of_reader rfl).trans (parseYWindow_cmd y0 y1)
  case wireSetRamXAddrCounter x => cases hw; exact (parseWire_of_reader rfl).trans (parseXCounter_cmd x)
  case wireSetRamYAddrCounter y => cases hw; exact (parseWire_of_reader rfl).trans (parseYCounter_cmd y)
  case wireBorderWaveform b => cases hw; exact (parseWire_of_reader rfl).trans (parseBorder_cmd b)
  case wireDisplayUpdateControl2 u => cases hw; exact (parseWire_of_reader rfl).trans (parseUpdateControl_cmd u)
  case wireWriteBwRamPlane1 bs =>
    cases hw
    exact (parseWire_of_reader rfl).trans (parseFrame_of_length (hlen (.inl rfl)) _)
  case wireWriteBwRamPlane2 bs =>
    cases hw
    exact (parseWire_of_reader rfl).trans (parseFrame_of_length (hlen (.inr rfl)) _)
  all_goals cases hw

/-! ### Cutting a stream (R79) -/

/-- Data items go to the command before them. -/
theorem cutItems_data_append (p : List Byte) (rest : List WireItem) :
    cutItems (p.map .d ++ rest) = (p ++ (cutItems rest).1, (cutItems rest).2) := by
  induction p with
  | nil => rfl
  | cons b p ih => simp [cutItems, ih]

/-- The items of a command in front of a stream that begins with a command are cut off as that command. -/
theorem cutItems_wireItems_append {w : WireCommand} {rest : List WireItem} {ws : List WireCommand}
    (h : cutItems rest = ([], ws)) : cutItems (wireItems w ++ rest) = ([], w :: ws) := by
  simp [wireItems, cutItems, cutItems_data_append, h]

/-- Settles O7, by induction on the stream of commands. -/
theorem wireStreamCutsAtCommands : Obligations.WireStreamCutsAtCommands := by
  intro ws
  induction ws with
  | nil => rfl
  | cons w ws ih => exact cutItems_wireItems_append ih

end Sys2Proof
end

section
/-! PROOFS. Op bytes and wire opcodes: each byte has one meaning and each instruction one byte (R70 to R72, R80,
R85, R86). -/

namespace Sys2Proof

/-! ### Which bytes name an operation -/

theorem decodeNoMode_isSome (m : BitVec 2) (i : Instr) :
    (decodeNoMode m i).toOption.isSome = decide (m = 0) := by
  unfold decodeNoMode
  split
  next h => exact (decide_eq_true h).symm
  next h => exact (decide_eq_false h).symm

theorem decodeByMode_isSome (m : BitVec 2) {d₀ d₁ d₂ d₃ e₀ e₁ e₂ e₃ : Decoded}
    (h₀ : d₀.toOption.isSome = e₀.toOption.isSome) (h₁ : d₁.toOption.isSome = e₁.toOption.isSome)
    (h₂ : d₂.toOption.isSome = e₂.toOption.isSome) (h₃ : d₃.toOption.isSome = e₃.toOption.isSome) :
    (decodeByMode m d₀ d₁ d₂ d₃).toOption.isSome = (decodeByMode m e₀ e₁ e₂ e₃).toOption.isSome := by
  unfold decodeByMode
  split
  · exact h₀
  · exact h₁
  · exact h₂
  · exact h₃

theorem decodeOpnum_isSome (n : BitVec 5) (m : BitVec 2) (a b : Args) :
    (decodeOpnum n m a).toOption.isSome = (decodeOpnum n m b).toOption.isSome := by
  unfold decodeOpnum
  split
  case h_12 | h_13 | h_15 | h_18 => exact decodeByMode_isSome m rfl rfl rfl rfl
  case h_19 => rfl
  all_goals simp only [decodeNoMode_isSome]

/-- The operands do not decide whether a byte names an operation (R70, R71). -/
theorem decodeOp_isSome (byte : Byte) (a b : Args) :
    (decodeOp byte a).toOption.isSome = (decodeOp byte b).toOption.isSome := by
  unfold decodeOp
  split
  · exact decodeOpnum_isSome ..
  · rfl

theorem exists_instr_iff_isSome (d : Decoded) : (∃ i, d = .instr i) ↔ d.toOption.isSome = true := by
  cases d <;> simp [Decoded.toOption]

/-- A byte names an operation when it does so with nothing on the operand ports. -/
theorem exists_instr_iff_bare (byte : Byte) (a : Args) :
    (∃ i, decodeOp byte a = .instr i) ↔ (decodeOp byte {}).toOption.isSome = true := by
  rw [exists_instr_iff_isSome, decodeOp_isSome byte a {}]

/-- Settles O2: the operands decide nothing, and without them the 256 bytes are read off the decoder. -/
theorem exactlyTwentyEightOpBytes : Obligations.ExactlyTwentyEightOpBytes := by
  intro byte a
  rw [exists_instr_iff_bare]
  decide +revert

open Machine in
/-- A byte that decodes to no instruction is refused (R85). -/
theorem step_of_reject {s : State} {byte : Byte} {a : Args} {rest : List Request} (hinbox : s.inbox = .op byte a :: rest)
    (h : ¬ ∃ i, decodeOp byte a = .instr i) :
    step s = .next { s with inbox := rest, answer := some .refused } := by
  cases hd : decodeOp byte a with
  | instr i => exact absurd ⟨i, hd⟩ h
  | reject why => simp [step, fetch, hinbox, decodeRequest, hd, takeRequest, refuse, answerWith]

/-- Settles O3: each of the four cases of R85 leaves a byte that names no operation. -/
theorem illFormedOpByteIsRefused : Obligations.IllFormedOpByteIsRefused := by
  intro s byte a rest hinbox hill
  refine step_of_reject hinbox ?_
  rw [exists_instr_iff_bare]
  clear hinbox
  decide +revert

/-! ### Each instruction has one byte -/

/-- Whatever `d` decodes to is encoded as the op byte `byte`. -/
def EncodesTo (byte : Byte) (d : Decoded) : Prop :=
  ∀ i, d = .instr i → ∃ a, encode i = .op byte a

theorem EncodesTo.reject (byte : Byte) (r : Reject) : EncodesTo byte (.reject r) := nofun

theorem EncodesTo.instr {byte : Byte} {i : Instr} {a : Args} (h : encode i = .op byte a) : EncodesTo byte (.instr i) := by
  rintro _ ⟨⟩
  exact ⟨a, h⟩

theorem EncodesTo.noMode {n : Nat} {i : Instr} {a : Args} (h : encode i = .op (opByte n 0) a) (m : BitVec 2) :
    EncodesTo (opByte n m.toNat) (decodeNoMode m i) := by
  unfold decodeNoMode
  split
  · subst m; exact .instr h
  · exact .reject _ _

theorem EncodesTo.byMode {n : Nat} {full fast part grayscale : Decoded} (h₀ : EncodesTo (opByte n 0) full)
    (h₁ : EncodesTo (opByte n 1) fast) (h₂ : EncodesTo (opByte n 2) part) (h₃ : EncodesTo (opByte n 3) grayscale)
    (m : BitVec 2) : EncodesTo (opByte n m.toNat) (decodeByMode m full fast part grayscale) := by
  have hm : m = 0 ∨ m = 1 ∨ m = 2 ∨ m = 3 := by decide +revert
  rcases hm with rfl | rfl | rfl | rfl
  · exact h₀
  · exact h₁
  · exact h₂
  · exact h₃

theorem encodesTo_decodeOpnum (n : BitVec 5) (m : BitVec 2) (a : Args) :
    EncodesTo (opByte n.toNat m.toNat) (decodeOpnum n m a) := by
  unfold decodeOpnum
  generalize n.toNat = k
  split
  case h_12 | h_13 => exact .byMode (.instr rfl) (.instr rfl) (.instr rfl) (.instr rfl) m
  case h_15 | h_18 => exact .byMode (.instr rfl) (.instr rfl) (.reject _ _) (.instr rfl) m
  case h_19 => exact .reject _ _
  all_goals exact .noMode rfl m

/-- An op byte is put together from its fields (R70). -/
theorem opByte_fields {byte : Byte} (h : byte.getLsbD 7 = true) :
    opByte (byte.extractLsb' 2 5).toNat (byte.extractLsb' 0 2).toNat = byte := by
  decide +revert

theorem encodesTo_decodeOp (byte : Byte) (a : Args) : EncodesTo byte (decodeOp byte a) := by
  unfold decodeOp
  split
  next h => simpa only [opByte_fields h] using encodesTo_decodeOpnum (byte.extractLsb' 2 5) (byte.extractLsb' 0 2) a
  next => exact .reject _ _

/-- The instruction of every row of the opcode map is encoded as the opcode of that row (R80). -/
theorem encode_wireRow (a : Args) : ∀ row ∈ wireRows a, ∃ a', encode row.2 = .wire row.1 a' := by
  simp [wireRows, encode]

/-- Settles O5: by the operation number and the mode for op bytes, by the row of the opcode map for wire opcodes. -/
theorem encodeOfDecode : Obligations.EncodeOfDecode :=
  ⟨fun byte a i h => encodesTo_decodeOp byte a i h, fun _ _ _ h => encode_wireRow _ _ (decodeWire_row h)⟩

/-- Settles O4: the decoder reads back the request of every instruction, constructor by constructor. -/
theorem decodeOfEncode : Obligations.DecodeOfEncode
  | .encMono img => Laws.DecodeEncode.encMono img
  | .encGray img => Laws.DecodeEncode.encGray img
  | .repack g => Laws.DecodeEncode.repack g
  | .reset => Laws.DecodeEncode.reset
  | .waitIdle poll => Laws.DecodeEncode.waitIdle poll
  | .sendCmd op => Laws.DecodeEncode.sendCmd op
  | .sendData b => Laws.DecodeEncode.sendData b
  | .sendBulk bs => Laws.DecodeEncode.sendBulk bs
  | .setWindow x0 y0 x1 y1 => Laws.DecodeEncode.setWindow x0 y0 x1 y1
  | .setCursor x y => Laws.DecodeEncode.setCursor x y
  | .loadLut => Laws.DecodeEncode.loadLut
  | .initFull => Laws.DecodeEncode.initFull
  | .initFast => Laws.DecodeEncode.initFast
  | .initPartial => Laws.DecodeEncode.initPartial
  | .initGrayscale => Laws.DecodeEncode.initGrayscale
  | .triggerFull => Laws.DecodeEncode.triggerFull
  | .triggerFast => Laws.DecodeEncode.triggerFast
  | .triggerPartial => Laws.DecodeEncode.triggerPartial
  | .triggerGrayscale => Laws.DecodeEncode.triggerGrayscale
  | .sleep => Laws.DecodeEncode.sleep
  | .refreshFull buf preferPartial => Laws.DecodeEncode.refreshFull buf preferPartial
  | .refreshFast buf preferPartial => Laws.DecodeEncode.refreshFast buf preferPartial
  | .refreshGrayscale buf preferPartial => Laws.DecodeEncode.refreshGrayscale buf preferPartial
  | .fpCompute img => Laws.DecodeEncode.fpCompute img
  | .shouldUpdate fp force => Laws.DecodeEncode.shouldUpdate fp force
  | .updateFull img preferPartial force => Laws.DecodeEncode.updateFull img preferPartial force
  | .updateFast img preferPartial force => Laws.DecodeEncode.updateFast img preferPartial force
  | .updateGrayscale img preferPartial force => Laws.DecodeEncode.updateGrayscale img preferPartial force
  | .wireDriverOutputControl => Laws.DecodeEncode.wireDriverOutputControl
  | .wireDataEntryMode => Laws.DecodeEncode.wireDataEntryMode
  | .wireResetDeepSleep => Laws.DecodeEncode.wireResetDeepSleep
  | .wireSetRamXWindow x0 x1 => Laws.DecodeEncode.wireSetRamXWindow x0 x1
  | .wireSetRamYWindow y0 y1 => Laws.DecodeEncode.wireSetRamYWindow y0 y1
  | .wireBorderWaveform b => Laws.DecodeEncode.wireBorderWaveform b
  | .wireBoosterSoftStart => Laws.DecodeEncode.wireBoosterSoftStart
  | .wireTempSensorSelect => Laws.DecodeEncode.wireTempSensorSelect
  | .wireSetRamXAddrCounter x => Laws.DecodeEncode.wireSetRamXAddrCounter x
  | .wireSetRamYAddrCounter y => Laws.DecodeEncode.wireSetRamYAddrCounter y
  | .wireDisplayUpdateControl2 ctl => Laws.DecodeEncode.wireDisplayUpdateControl2 ctl
  | .wireMasterActivation => Laws.DecodeEncode.wireMasterActivation
  | .wireWriteLutRegister => Laws.DecodeEncode.wireWriteLutRegister
  | .wireGateLineEnd => Laws.DecodeEncode.wireGateLineEnd
  | .wireGateDrivingVoltage => Laws.DecodeEncode.wireGateDrivingVoltage
  | .wireVcomRegister => Laws.DecodeEncode.wireVcomRegister
  | .wireWriteBwRamPlane1 bs => Laws.DecodeEncode.wireWriteBwRamPlane1 bs
  | .wireWriteBwRamPlane2 bs => Laws.DecodeEncode.wireWriteBwRamPlane2 bs
  | .wireDeepSleep => Laws.DecodeEncode.wireDeepSleep

/-- Settles O1: the decoder reads each byte with any operands on the ports. -/
theorem wordsOfEachFamilyDecode : Obligations.WordsOfEachFamilyDecode :=
  ⟨fun _ => rfl, fun _ => rfl, fun _ => rfl, fun _ => rfl, fun _ => rfl, fun _ => rfl, fun _ => rfl, fun _ => rfl,
    fun _ => rfl, fun _ => rfl⟩

end Sys2Proof
end

section
/-! PROOFS. A composite operation equals its parts asked one by one: lists of steps run one after the other, whatever has
been answered in between (R90). -/

namespace Sys2Proof.Machine

/-! ### The answer decides no step -/

/-- A run with the answer to the host replaced. -/
def Run.answered (a : Answer) (r : Run) : Run :=
  match r with
  | .done t => .done (answerWith a t)
  | .raised e t => .raised e (answerWith a t)

theorem send_answerWith (a : Answer) (d : St) (l : Level) (bs : List Byte) (s : State) :
    send d l bs (answerWith a s) = (send d l bs s).answered a := by
  cases h : spiSucceeds s with
  | true => rw [send_ok d l bs s h, send_ok d l bs (answerWith a s) h]; rfl
  | false => rw [send_fail d l bs s h, send_fail d l bs (answerWith a s) h]; rfl

theorem pollLoop_answerWith (a : Answer) (poll more n : Nat) (s : State) :
    pollLoop poll more n (answerWith a s) = (pollLoop poll more n s).answered a := by
  have hlevel : busyLevel (answerWith a s) = busyLevel s := rfl
  induction more generalizing n s with
  | zero =>
    unfold pollLoop
    rw [hlevel]
    split <;> rfl
  | succ k ih =>
    unfold pollLoop
    rw [hlevel]
    split
    · rfl
    · exact ih (n + 1) (delayMs poll (pinReadBusy s)) rfl

theorem acquire_answerWith (a : Answer) (s : State) : acquire (answerWith a s) = (acquire s).answered a := by
  have hstatus : modInitStatus (answerWith a s) = modInitStatus s := rfl
  unfold acquire
  rw [hstatus, answerWith_busHeld]
  split_ifs <;> rfl

theorem runAction_answerWith (a : Answer) (x : Action) (s : State) :
    runAction x (answerWith a s) = (runAction x s).answered a := by
  cases x with
  | acquire => exact acquire_answerWith a s
  | waitIdle poll => exact pollLoop_answerWith a poll s.cfg.pollsAfterFirst 0 (setSt .awaitingBusyClear s)
  | sendCmd op => exact send_answerWith ..
  | sendData b => exact send_answerWith ..
  | sendBulk bs => exact send_answerWith ..
  | countRefresh m => cases m <;> rfl
  | resetPulse => rfl
  | beginTrigger => rfl
  | markLutLoaded => rfl
  | setMode m => rfl
  | delay n => rfl
  | endSession => rfl
  | store d => rfl

theorem runAll_answerWith (a : Answer) (as : List Action) (s : State) :
    runAll as (answerWith a s) = (runAll as s).answered a := by
  induction as generalizing s with
  | nil => rfl
  | cons x as ih =>
    have hx := runAction_answerWith a x s
    cases h : runAction x s with
    | done t => rw [h] at hx; rw [runAll_cons_done h, runAll_cons_done hx, ih]
    | raised e t => rw [h] at hx; rw [runAll_cons_raised h, runAll_cons_raised hx]; rfl

/-! ### One list of steps after another -/

theorem runPlan_done {p : Plan} {s t : State} (hs : s.st ∈ p.entry) (hacc : p.accepted = true) (hearly : p.early = none)
    (h : runAll p.actions s = .done t) : runPlan p s = answerWith (.ok p.value) t := by
  have hbody : p.body s = .done t := by rw [Plan.body, hearly, h]
  rw [runPlan, hacc, hostOp_done hs hbody]

theorem runPlan_raised {p : Plan} {s t : State} {e : Raise} (hs : s.st ∈ p.entry) (hacc : p.accepted = true)
    (hearly : p.early = none) (h : runAll p.actions s = .raised e t) : runPlan p s = abort s.st e t := by
  have hbody : p.body s = .raised e t := by rw [Plan.body, hearly, h]
  rw [runPlan, hacc, hostOp_raised hs hbody]

/-- The steps `as` from `s` are done, and `t` is the state they end in, answered OK. -/
def DoneOk (as : List Action) (s t : State) : Prop :=
  ∃ u, runAll as s = .done u ∧ t = answerWith (.ok .none) u

/-- An instruction that answers OK without a value began in an entry state, and its steps were done. -/
theorem doneOk_of_exec {i : Instr} {s t : State} (h : exec i s = .next t) (hok : t.answer = okAnswer) :
    s.st ∈ (plan i s).entry ∧ DoneOk (plan i s).actions s t := by
  rw [exec_eq_runPlan] at h
  cases h
  obtain ⟨hs, -, u, hu, ht⟩ := runPlan_ok hok
  exact ⟨hs, u, hu, ht⟩

/-- Steps asked for one list after the other are the steps of both lists. -/
theorem DoneOk.append {as bs : List Action} {s t u : State} (h : DoneOk as s t) (k : DoneOk bs t u) :
    DoneOk (as ++ bs) s u := by
  obtain ⟨t, ht, rfl⟩ := h
  obtain ⟨u, hu, rfl⟩ := k
  rw [runAll_answerWith] at hu
  cases hv : runAll bs t with
  | raised e v => rw [hv] at hu; cases hu
  | done v => rw [hv] at hu; cases hu; exact ⟨v, (runAll_append_done ht).trans hv, rfl⟩

/-- Two lists of steps in one operation are the second list asked for after the first has answered OK, whether the second
is done or raises, where the first puts `S.st` back. -/
theorem runPlan_append {as bs : List Action} {entry : List St} {s : State}
    (hok : (runPlan (planSteps entry true as) s).answer = okAnswer) (hst : stAfter as s.st = s.st) :
    runPlan (planSteps entry true (as ++ bs)) s =
      runPlan (planSteps entry true bs) (runPlan (planSteps entry true as) s) := by
  obtain ⟨hs, -, u, hu, hplan⟩ := runPlan_ok hok
  have hust : u.st = s.st := (runAll_done_st hu).trans hst
  have hsu : (answerWith (.ok .none) u).st ∈ entry := hust.symm ▸ hs
  have hbs : runAll bs (answerWith (.ok .none) u) = (runAll bs u).answered (.ok .none) := runAll_answerWith ..
  rw [hplan]
  cases hv : runAll bs u with
  | done v =>
    rw [hv] at hbs
    have hboth : runAll (as ++ bs) s = .done v := (runAll_append_done hu).trans hv
    rw [runPlan_done (p := planSteps entry true (as ++ bs)) hs rfl rfl hboth, runPlan_done hsu rfl rfl hbs]
    rfl
  | raised e v =>
    rw [hv] at hbs
    have hboth : runAll (as ++ bs) s = .raised e v := (runAll_append_done hu).trans hv
    rw [runPlan_raised (p := planSteps entry true (as ++ bs)) hs rfl rfl hboth, runPlan_raised hsu rfl rfl hbs, ← hust]
    rfl

/-- An operation made of two wire commands is the second asked for after the first has answered OK. -/
theorem runPlan_two_wire (v w : WireCommand) {s : State} (hok : (runPlan (planWire v) s).answer = okAnswer) :
    runPlan (planSteps entryReady true (wireActions v ++ wireActions w)) s =
      runPlan (planWire w) (runPlan (planWire v) s) :=
  runPlan_append hok (stAfter_wire v s.st)

/-- Settles O57: each operation is its two wire commands in one list of steps. -/
theorem windowAndCursorAreTwoWireCommands : Obligations.WindowAndCursorAreTwoWireCommands := by
  intro s t u first second both hops hfirst hok hsecond
  rw [exec_eq_runPlan] at hfirst hsecond ⊢
  cases hfirst
  cases hsecond
  rcases hops with ⟨x0, y0, x1, y1, rfl, rfl, rfl⟩ | ⟨x, y, rfl, rfl, rfl⟩
  · exact congrArg _ (runPlan_two_wire (cmdXWindow x0 x1) (cmdYWindow y0 y1) hok)
  · exact congrArg _ (runPlan_two_wire (cmdXCounter x) (cmdYCounter y) hok)

/-! ### REFRESH of a monochrome buffer -/

theorem actualMode_eq_selectMode (m : Mode) (pp : Bool) (s : State) : actualMode m pp s = selectMode s m pp := by
  simp [actualMode, selectMode, BitVec.lt_def]

/-- The steps of a refresh of a monochrome buffer, up to the count (R220, R223). -/
theorem refreshActions_mono {actual : Mode} (hmono : actual ≠ .grayscale) (c : Config) (loaded : Bool) (buf : List Byte) :
    refreshActions c loaded actual buf =
      initActions c loaded actual ++ [.sendCmd 0x24] ++ [.sendBulk buf] ++ triggerActions actual ++
        [.countRefresh actual] := by
  have hframe : frameTransfers c actual buf = [.sendCmd 0x24] ++ [.sendBulk buf] := by
    cases actual with
    | grayscale => exact absurd rfl hmono
    | full => rfl
    | fast => rfl
    | part => rfl
  simp only [refreshActions, hframe, List.append_assoc]

/-- The steps of INIT of the chosen mode, the frame and TRIGGER, done one after the other, then the count: REFRESH (R220). -/
theorem refresh_of_doneOk {s t : State} {m actual : Mode} {buf : List Byte} {pp : Bool} (hs : s.st ∈ entryVisible)
    (hacc : refreshAccepted s.cfg m buf pp = true) (hactual : actual = selectMode s m pp) (hmono : actual ≠ .grayscale)
    (h : DoneOk (initActions s.cfg s.lutLoaded actual ++ [.sendCmd 0x24] ++ [.sendBulk buf] ++ triggerActions actual) s t) :
    refreshOp m buf pp s = { t with prc := countAfter actual t.prc, orchMode := some actual } := by
  obtain ⟨u, hu, rfl⟩ := h
  have hrun : refreshBody m buf pp s = .done (setOrchMode actual (updateCount actual u)) := by
    rw [refreshBody, ← hactual, refreshActions_mono hmono, runAll_append_done hu]
    rfl
  rw [refreshOp, hacc, hostOp_done hs hrun]
  ext1 <;> simp

/-- Settles O42: the four operations run the steps of REFRESH up to the count, one list after the other. -/
theorem refreshIsInitFrameTrigger : Obligations.RefreshIsInitFrameTrigger := by
  intro s a b c d buf pp i init trig m actual hi hacc hactual hmode ha haok hb hbok hc hcok hd hdok
  rw [actualMode_eq_selectMode] at hactual
  have hrefresh : exec i s = .next (refreshOp m buf pp s) ∧ refreshAccepted s.cfg m buf pp = true := by
    simp only [List.mem_cons, Prod.mk.injEq, List.not_mem_nil, or_false] at hi
    rcases hi with ⟨rfl, rfl⟩ | ⟨rfl, rfl⟩
    · exact ⟨rfl, beq_iff_eq.2 hacc⟩
    · exact ⟨rfl, beq_iff_eq.2 hacc⟩
  have hparts : plan init s = planSteps entryVisible true (initActions s.cfg s.lutLoaded actual) ∧
      (plan trig c).actions = triggerActions actual ∧ actual ≠ .grayscale := by
    simp only [List.mem_cons, Prod.mk.injEq, List.not_mem_nil, or_false] at hmode
    rcases hmode with ⟨rfl, rfl, rfl⟩ | ⟨rfl, rfl, rfl⟩ | ⟨rfl, rfl, rfl⟩
    · exact ⟨rfl, rfl, nofun⟩
    · exact ⟨rfl, rfl, nofun⟩
    · exact ⟨rfl, rfl, nofun⟩
  obtain ⟨hexec, hacc⟩ := hrefresh
  obtain ⟨hinit, htrig, hmono⟩ := hparts
  obtain ⟨hs, hinitDone⟩ := doneOk_of_exec ha haok
  obtain ⟨-, hcmdDone⟩ := doneOk_of_exec hb hbok
  obtain ⟨-, hbulkDone⟩ := doneOk_of_exec hc hcok
  obtain ⟨-, htrigDone⟩ := doneOk_of_exec hd hdok
  rw [hinit] at hs hinitDone
  rw [htrig] at htrigDone
  have hdone := ((hinitDone.append hcmdDone).append hbulkDone).append htrigDone
  rw [hexec, refresh_of_doneOk hs hacc hactual hmono hdone]

/-! ### UPDATE of an image to be transmitted -/

/-- Where an encoder answers a buffer, the raster has an orientation and that is its buffer. -/
theorem encoded_of_answer {c : Config} {img : Raster} {enc : Config → Orientation → Raster → List Byte} {buf : List Byte}
    (h : encodeAnswer c img enc = .ok (.bytes buf)) : shapeError c img = none ∧ encodedBuffer c img enc = buf := by
  unfold encodeAnswer at h
  unfold shapeError encodedBuffer
  cases ho : orientation c img with
  | none => rw [ho] at h; cases h
  | some o => rw [ho] at h; cases h; exact ⟨rfl, rfl⟩

theorem shouldUpdate_iff (s : State) (d : Digest) (force : Bool) :
    shouldUpdate s d force = true ↔ force = true ∨ s.fpValid = false ∨ s.fp ≠ d := by
  simp [shouldUpdate, or_assoc, @eq_comm _ d]

/-- What REFRESH accepts of a preference for Partial, UPDATE accepts (R222, R229). -/
theorem updateAccepted_of_refreshAccepted {c : Config} {m : Mode} {buf : List Byte} {pp : Bool}
    (h : refreshAccepted c m buf pp = true) : updateAccepted m pp = true := by
  rw [updateAccepted_iff]
  rintro rfl
  simp only [refreshAccepted, Bool.and_eq_true, Bool.not_eq_true'] at h
  exact h.2

/-- UPDATE of an image with a shape and something to transmit runs the steps of REFRESH of its buffer, then the store. -/
theorem planUpdate_actions {s : State} {m : Mode} {img : Raster} {pp force : Bool} {buf : List Byte}
    (htransmit : shouldUpdate s (Config.fingerprint img) force = true)
    (hbuf : encodedBuffer s.cfg img (encodeFor m) = buf) :
    (planUpdate m img pp force s).actions =
      (planRefresh m buf pp s).actions ++ [.store (Config.fingerprint img)] := by
  simp only [planUpdate, htransmit, hbuf, if_true]
  rfl

/-- What UPDATE ends in, by what REFRESH of the encoder's buffer answers (R229, R230, R262). -/
theorem update_of_refresh {s : State} {m : Mode} {img : Raster} {pp force : Bool} {buf : List Byte}
    (htransmit : shouldUpdate s (Config.fingerprint img) force = true) (hshape : shapeError s.cfg img = none)
    (hbuf : encodedBuffer s.cfg img (encodeFor m) = buf) :
    ((runPlan (planRefresh m buf pp s) s).answer = okAnswer → runPlan (planUpdate m img pp force s) s =
      { runPlan (planRefresh m buf pp s) s with
        fp := Config.fingerprint img
        fpValid := true
        answer := some (.ok (.transmitted true)) }) ∧
    ∀ e, (runPlan (planRefresh m buf pp s) s).answer = some (.error e) →
      runPlan (planUpdate m img pp force s) s = runPlan (planRefresh m buf pp s) s := by
  have hactions := planUpdate_actions (pp := pp) htransmit hbuf
  rcases runPlan_cases (planRefresh m buf pp s) s with
    ⟨-, h⟩ | ⟨hs, hacc, -, t, ht, h⟩ | ⟨hs, hacc, -, e, t, ht, h⟩ | ⟨-, -, e, hearly, -⟩
  · simp [h, okAnswer]
  · have hrun : runAll (planUpdate m img pp force s).actions s = .done (storeFingerprint (Config.fingerprint img) t) := by
      rw [hactions, runAll_append_done ht]
      rfl
    refine ⟨fun _ => ?_, fun e he => by simp [h] at he⟩
    rw [runPlan_done (p := planUpdate m img pp force s) hs (updateAccepted_of_refreshAccepted hacc) hshape hrun, h]
    simp only [planUpdate, htransmit]
    rfl
  · have hrun : runAll (planUpdate m img pp force s).actions s = .raised e t := by
      rw [hactions, runAll_append_raised ht]
    refine ⟨fun hok => by simp [h, okAnswer] at hok, fun _ _ => ?_⟩
    rw [runPlan_raised (p := planUpdate m img pp force s) hs (updateAccepted_of_refreshAccepted hacc) hshape hrun, h]
  · cases hearly

/-- Settles O46: UPDATE runs the steps of REFRESH of the encoder's buffer, then the store. -/
theorem updateIsEncodeRefreshStore : Obligations.UpdateIsEncodeRefreshStore := by
  intro s t img pp force buf i enc refresh hops htransmit henc hrefresh
  rw [← shouldUpdate_iff] at htransmit
  obtain ⟨m, hupdate, hplan, hencode⟩ : ∃ m, plan i s = planUpdate m img pp force s ∧
      plan refresh s = planRefresh m buf pp s ∧
      exec enc s = .next (answerWith (encodeAnswer s.cfg img (encodeFor m)) s) := by
    simp only [List.mem_cons, Prod.mk.injEq, List.not_mem_nil, or_false] at hops
    rcases hops with ⟨rfl, rfl, rfl⟩ | ⟨rfl, rfl, rfl⟩ | ⟨rfl, rfl, rfl⟩
    · exact ⟨.full, rfl, rfl, rfl⟩
    · exact ⟨.fast, rfl, rfl, rfl⟩
    · exact ⟨.grayscale, rfl, rfl, rfl⟩
  have hanswer := congrArg State.answer (Host.Outcome.next.inj (hencode.symm.trans henc))
  obtain ⟨hshape, hbuf⟩ := encoded_of_answer (Option.some.inj hanswer)
  obtain ⟨hok, herror⟩ := update_of_refresh (pp := pp) htransmit hshape hbuf
  rw [exec_eq_runPlan, hplan] at hrefresh
  cases hrefresh
  rw [exec_eq_runPlan, hupdate]
  exact ⟨fun h => congrArg _ (hok h), fun e h => congrArg _ (herror e h)⟩

end Sys2Proof.Machine
end

section
/-! PROOFS. The layout of a buffer: which cell and which place in it a panel pixel has (R42, R43), and what a packed byte
holds in each place (R105, R107, R108). -/

namespace Sys2Proof.Machine

/-! ### Cells of `m` pixels -/

section Cells

variable {m w h px py : Nat}

/-- The cell of a panel pixel is its column of cells, after the rows above. -/
theorem cell_eq (hm : 0 < m) (hw : m ∣ w) : (px + py * w) / m = px / m + py * (w / m) := by
  obtain ⟨n, rfl⟩ := hw
  rw [Nat.mul_div_cancel_left n hm, Nat.mul_left_comm, Nat.add_mul_div_left _ _ hm]

theorem column_lt (hw : m ∣ w) (hpx : px < w) : px / m < w / m :=
  Nat.div_lt_div_of_lt_of_dvd hw hpx

theorem cell_lt (hm : 0 < m) (hw : m ∣ w) (hpx : px < w) (hpy : py < h) : (px + py * w) / m < w / m * h := by
  have hcol := column_lt hw hpx
  have hrow : (w / m) * (py + 1) ≤ w / m * h := Nat.mul_le_mul_left _ hpy
  rw [cell_eq hm hw, Nat.mul_comm py]
  rw [Nat.mul_add] at hrow
  omega

theorem cell_row (hm : 0 < m) (hw : m ∣ w) (hpx : px < w) : (px + py * w) / m / (w / m) = py := by
  have hcol := column_lt hw hpx
  rw [cell_eq hm hw, Nat.add_mul_div_right _ _ (Nat.zero_lt_of_lt hcol), Nat.div_eq_of_lt hcol, Nat.zero_add]

theorem cell_column (hm : 0 < m) (hw : m ∣ w) (hpx : px < w) : m * ((px + py * w) / m % (w / m)) + px % m = px := by
  rw [cell_eq hm hw, Nat.add_mul_mod_self_right, Nat.mod_eq_of_lt (column_lt hw hpx), Nat.div_add_mod]

/-- Every place of every cell is that of a panel pixel. -/
theorem exists_pixel_of_cell {k j : Nat} (hm : 0 < m) (hw : m ∣ w) (hk : k < w / m * h) (hj : j < m) :
    ∃ px py, px < w ∧ py < h ∧ (px + py * w) / m = k ∧ px % m = j := by
  have hn : 0 < w / m := Nat.pos_of_mul_pos_right (Nat.zero_lt_of_lt hk)
  have hcol : m * (k % (w / m)) + j < w := by
    have hle : m * (k % (w / m) + 1) ≤ m * (w / m) := Nat.mul_le_mul_left m (Nat.mod_lt k hn)
    rw [Nat.mul_div_cancel' hw, Nat.mul_add] at hle
    omega
  refine ⟨m * (k % (w / m)) + j, k / (w / m), hcol, Nat.div_lt_of_lt_mul hk, ?_, ?_⟩
  · rw [cell_eq hm hw, Nat.mul_add_div hm, Nat.div_eq_of_lt hj, Nat.add_zero, Nat.mod_add_div']
  · rw [Nat.mul_add_mod, Nat.mod_eq_of_lt hj]

theorem getD_map_range_cell (f : Nat → Byte) (hm : 0 < m) (hw : m ∣ w) (hpx : px < w) (hpy : py < h) :
    ((List.range (w / m * h)).map f).getD ((px + py * w) / m) 0 = f ((px + py * w) / m) := by
  simp [List.getD_eq_getElem?_getD, List.getElem?_range (cell_lt hm hw hpx hpy)]

/-- Two buffers of one cell a byte are equal when they agree on every panel pixel, however a cell is read. -/
theorem buffer_ext {α : Type} {read : Byte → Nat → α} (hread : ∀ a b, (∀ j < m, read a j = read b j) → a = b)
    {as bs : List Byte} (hm : 0 < m) (hw : m ∣ w) (has : as.length = w / m * h) (hbs : bs.length = w / m * h)
    (heq : ∀ px py, px < w → py < h →
      read (as.getD ((px + py * w) / m) 0) (px % m) = read (bs.getD ((px + py * w) / m) 0) (px % m)) : as = bs := by
  refine List.ext_getElem (has.trans hbs.symm) fun k hka hkb => hread _ _ fun j hj => ?_
  obtain ⟨px, py, hpx, hpy, rfl, rfl⟩ := exists_pixel_of_cell hm hw (has ▸ hka) hj
  rw [← List.getD_eq_getElem as 0 hka, ← List.getD_eq_getElem bs 0 hkb]
  exact heq px py hpx hpy

end Cells

theorem eight_dvd_width (c : Config) : 8 ∣ width c := ⟨_, rfl⟩

theorem four_dvd_width (c : Config) : 4 ∣ width c := (by decide : 4 ∣ 8).trans (eight_dvd_width c)

/-! ### Places of a byte -/

/-- Bit `7 - j` of a packed byte is the bit put in at place `j` (R46, R105). -/
theorem packBits_bit (bit : Nat → Bool) {j : Nat} (hj : j < 8) : (packBits bit).getLsbD (7 - j) = bit j := by
  interval_cases j <;> simp [packBits, List.range_succ]

/-- Sample `j` of a packed byte is the code put in at place `j` (R46, R107, R108). -/
theorem sample_packCodes (codeAt : Nat → BitVec 2) {j : Nat} (hj : j < 4) : sample (packCodes codeAt) j = codeAt j := by
  ext r hr
  interval_cases j <;> interval_cases r <;> simp [sample, packCodes, List.range_succ]

/-- A sample is a digit of the byte in base 4, sample 0 the highest. -/
theorem sample_toNat (b : Byte) {j : Nat} (hj : j < 4) : (sample b j).toNat = b.toNat / 4 ^ (3 - j) % 4 := by
  have hexp : 4 ^ (3 - j) = 2 ^ (6 - 2 * j) := by
    rw [show 4 = 2 ^ 2 from rfl, ← Nat.pow_mul]
    congr 1
    omega
  simp [sample, Nat.shiftRight_eq_div_pow, hexp]

theorem byte_ext_bits {a b : Byte} (h : ∀ j < 8, a.getLsbD (7 - j) = b.getLsbD (7 - j)) : a = b := by
  refine BitVec.eq_of_getLsbD_eq fun r hr => ?_
  have hbit := h (7 - r) (by omega)
  rwa [show 7 - (7 - r) = r by omega] at hbit

theorem byte_ext_samples {a b : Byte} (h : ∀ j < 4, sample a j = sample b j) : a = b := by
  have hdigit (j : Nat) (hj : j < 4) : a.toNat / 4 ^ (3 - j) % 4 = b.toNat / 4 ^ (3 - j) % 4 := by
    rw [← sample_toNat a hj, ← sample_toNat b hj, h j hj]
  have h₀ := hdigit 0 (by decide)
  have h₁ := hdigit 1 (by decide)
  have h₂ := hdigit 2 (by decide)
  have h₃ := hdigit 3 (by decide)
  norm_num at h₀ h₁ h₂ h₃
  apply BitVec.eq_of_toNat_eq
  omega

/-! ### Reading a panel pixel of a buffer -/

/-- The bit of panel pixel `(px, py)` in a monochrome buffer (R42). -/
def panelBit (c : Config) (bs : List Byte) (px py : Nat) : Bool :=
  (bs.getD ((px + py * width c) / 8) 0).getLsbD (7 - px % 8)

/-- The code of panel pixel `(px, py)` in a grayscale buffer (R43). -/
def panelCode (c : Config) (bs : List Byte) (px py : Nat) : BitVec 2 :=
  sample (bs.getD ((px + py * width c) / 4) 0) (px % 4)

theorem panelCode_toNat (c : Config) (bs : List Byte) (px py : Nat) :
    (panelCode c bs px py).toNat = (bs.getD ((px + py * width c) / 4) 0).toNat / 4 ^ (3 - px % 4) % 4 :=
  sample_toNat _ (Nat.mod_lt _ (by decide))

/-- A monochrome buffer is given by the bits of the panel pixels. -/
theorem monoBuffer_ext {c : Config} {as bs : List Byte} (has : as.length = monoLen c) (hbs : bs.length = monoLen c)
    (h : ∀ px py, px < width c → py < height c → panelBit c as px py = panelBit c bs px py) : as = bs :=
  buffer_ext (read := fun b j => b.getLsbD (7 - j)) (fun _ _ => byte_ext_bits) (by decide) (eight_dvd_width c) has hbs h

/-- A grayscale buffer is given by the codes of the panel pixels. -/
theorem grayBuffer_ext {c : Config} {as bs : List Byte} (has : as.length = grayLen c) (hbs : bs.length = grayLen c)
    (h : ∀ px py, px < width c → py < height c → panelCode c as px py = panelCode c bs px py) : as = bs :=
  buffer_ext (read := sample) (fun _ _ => byte_ext_samples) (by decide) (four_dvd_width c) has hbs h

theorem panelBit_replicate {c : Config} {px py : Nat} (b : Byte) (hpx : px < width c) (hpy : py < height c) :
    panelBit c (List.replicate (monoLen c) b) px py = b.getLsbD (7 - px % 8) := by
  have hcell : (px + py * width c) / 8 < monoLen c := cell_lt (by decide) (eight_dvd_width c) hpx hpy
  simp [panelBit, List.getD_eq_getElem?_getD, hcell]

theorem panelCode_replicate {c : Config} {px py : Nat} (b : Byte) (hpx : px < width c) (hpy : py < height c) :
    panelCode c (List.replicate (grayLen c) b) px py = sample b (px % 4) := by
  have hcell : (px + py * width c) / 4 < grayLen c := cell_lt (by decide) (four_dvd_width c) hpx hpy
  simp [panelCode, List.getD_eq_getElem?_getD, hcell]

end Sys2Proof.Machine
end

section
/-! PROOFS. The framebuffer bit-packer: the panel-space image of a raster, and what ENC_MONO, ENC_GRAY and REPACK put at
each panel pixel (R101 to R110). -/

namespace Sys2Proof.Machine

section PanelSpace

variable {c : Config} {o : Orientation} {img : Raster} {px py : Nat}

/-! ### The panel-space image of a raster -/

/-- Where a raster lists the pixel that lands at panel position `(px, py)` (R41, R103). -/
def rasterIndex (c : Config) (o : Orientation) (img : Raster) (px py : Nat) : Nat :=
  match o with
  | .identity => px + py * img.iw
  | .transposed => (height c - 1 - py) + px * img.iw

theorem panelPixel_eq_getD (c : Config) (o : Orientation) (img : Raster) (px py : Nat) :
    panelPixel c o img px py = img.pix.getD (rasterIndex c o img px py) 0 := by
  cases o <;> rfl

theorem orientation_identity_iff : orientation c img = some .identity ↔ img.iw = width c ∧ img.ih = height c := by
  unfold orientation
  split_ifs with hid <;> simp [hid]

theorem orientation_transposed_iff : orientation c img = some .transposed ↔
    ¬ (img.iw = width c ∧ img.ih = height c) ∧ img.iw = height c ∧ img.ih = width c := by
  unfold orientation
  split_ifs with hid htr
  · simp [hid]
  · exact iff_of_true rfl ⟨hid, htr⟩
  · simp [htr]

theorem orientation_none_iff : orientation c img = none ↔ ¬ shapeFits c img := by
  unfold orientation shapeFits
  split_ifs with hid htr <;> simp [*]

theorem exists_orientation (h : shapeFits c img) : ∃ o, orientation c img = some o :=
  Option.ne_none_iff_exists'.1 fun hnone => orientation_none_iff.1 hnone h

/-- The model's panel-space image is the one the statements speak of. -/
theorem pixelAt_eq_panelPixel (h : orientation c img = some o) (px py : Nat) :
    pixelAt c img px py = panelPixel c o img px py := by
  cases o with
  | identity => exact if_pos (orientation_identity_iff.1 h)
  | transposed => exact if_neg (orientation_transposed_iff.1 h).1

theorem rasterIndex_lt (h : orientation c img = some o) (hpx : px < width c) (hpy : py < height c) :
    rasterIndex c o img px py < img.iw * img.ih := by
  cases o with
  | identity =>
    obtain ⟨hw, hh⟩ := orientation_identity_iff.1 h
    have hrow : img.iw * (py + 1) ≤ img.iw * img.ih := Nat.mul_le_mul_left _ (hh ▸ hpy)
    rw [Nat.mul_add, Nat.mul_comm _ py] at hrow
    simp only [rasterIndex]
    omega
  | transposed =>
    obtain ⟨-, hw, hh⟩ := orientation_transposed_iff.1 h
    have hrow : img.iw * (px + 1) ≤ img.iw * img.ih := Nat.mul_le_mul_left _ (hh ▸ hpx)
    rw [Nat.mul_add, Nat.mul_comm _ px] at hrow
    simp only [rasterIndex]
    omega

/-- Every panel pixel of a raster inside its type is one of its pixels. -/
theorem panelPixel_mem (h : orientation c img = some o) (hwf : img.wellFormed = true) (hpx : px < width c)
    (hpy : py < height c) : panelPixel c o img px py ∈ img.pix := by
  simp only [Raster.wellFormed, Raster.sized, Bool.and_eq_true, beq_iff_eq] at hwf
  have hidx : rasterIndex c o img px py < img.pix.length := hwf.1 ▸ rasterIndex_lt h hpx hpy
  rw [panelPixel_eq_getD, List.getD_eq_getElem _ _ hidx]
  exact List.getElem_mem hidx

/-! ### The answers -/

theorem encodeAnswer_of_orientation (h : orientation c img = some o)
    (enc : Config → Orientation → Raster → List Byte) : encodeAnswer c img enc = .ok (.bytes (enc c o img)) := by
  rw [encodeAnswer, h]

theorem encodeAnswer_of_not_fits (h : ¬ shapeFits c img) (enc : Config → Orientation → Raster → List Byte) :
    encodeAnswer c img enc = .error (.unsupportedImageDimensions img.iw img.ih) := by
  rw [encodeAnswer, orientation_none_iff.2 h]

theorem exec_encMono (img : Raster) (s : State) :
    exec (.encMono img) s = .next { s with answer := some (encodeAnswer s.cfg img encodeMono) } := rfl

theorem exec_encGray (img : Raster) (s : State) :
    exec (.encGray img) s = .next { s with answer := some (encodeAnswer s.cfg img encodeGray) } := rfl

theorem exec_repack_ok {g : List Byte} {s : State} (h : g.length = grayLen s.cfg) : exec (.repack g) s = .next
    { s with answer := some (.ok (.planes (repackPlane s.cfg plane1Rule g) (repackPlane s.cfg plane2Rule g))) } :=
  congrArg Host.Outcome.next (if_pos h)

theorem exec_repack_refused {g : List Byte} {s : State} (h : g.length ≠ grayLen s.cfg) :
    exec (.repack g) s = .next { s with answer := some .refused } :=
  congrArg Host.Outcome.next (if_neg h)

/-! ### The encoders at a panel pixel -/

@[simp] theorem encodeMono_length (c : Config) (o : Orientation) (img : Raster) :
    (encodeMono c o img).length = monoLen c := by
  simp [encodeMono]

@[simp] theorem encodeGray_length (c : Config) (o : Orientation) (img : Raster) :
    (encodeGray c o img).length = grayLen c := by
  simp [encodeGray]

@[simp] theorem repackPlane_length (c : Config) (rule : BitVec 2 → Bool) (g : List Byte) :
    (repackPlane c rule g).length = monoLen c := by
  simp [repackPlane]

/-- ENC_MONO sets the bit of a panel pixel when it is white (R105). -/
theorem panelBit_encodeMono (o : Orientation) (img : Raster) (hpx : px < width c) (hpy : py < height c) :
    panelBit c (encodeMono c o img) px py = white img (panelPixel c o img px py) := by
  have hd := eight_dvd_width c
  rw [panelBit, encodeMono, monoLen, getD_map_range_cell _ (by decide) hd hpx hpy, monoByte,
    packBits_bit _ (Nat.mod_lt _ (by decide)), cell_row (by decide) hd hpx, cell_column (by decide) hd hpx]

/-- ENC_GRAY puts the code of a panel pixel's luminance (R107). -/
theorem panelCode_encodeGray (o : Orientation) (img : Raster) (hpx : px < width c) (hpy : py < height c) :
    panelCode c (encodeGray c o img) px py = grayCode (lum img (panelPixel c o img px py)) := by
  have hd := four_dvd_width c
  rw [panelCode, encodeGray, grayLen, getD_map_range_cell _ (by decide) hd hpx hpy, grayByte,
    sample_packCodes _ (Nat.mod_lt _ (by decide)), cell_row (by decide) hd hpx, cell_column (by decide) hd hpx]

/-- REPACK puts into a plane what the rule says of a panel pixel's sample: two bytes of the grayscale buffer lie under one
byte of the plane (R110). -/
theorem panelBit_repackPlane (rule : BitVec 2 → Bool) (g : List Byte) (hpx : px < width c) (hpy : py < height c) :
    panelBit c (repackPlane c rule g) px py = rule (panelCode c g px py) := by
  have hd := eight_dvd_width c
  have hbyte : 2 * ((px + py * width c) / 8) + px % 8 / 4 = (px + py * width c) / 4 := by
    obtain ⟨n, hn⟩ := hd
    rw [hn, Nat.mul_left_comm]
    omega
  rw [panelBit, repackPlane, monoLen, getD_map_range_cell _ (by decide) hd hpx hpy, planeByte,
    packBits_bit _ (Nat.mod_lt _ (by decide)), hbyte, Nat.mod_mod_of_dvd _ (by decide : 4 ∣ 8), panelCode]

/-! ### The values at a panel pixel -/

/-- The code of a luminance by its four ranges (R106). -/
theorem grayCode_toNat (v : Byte) : (grayCode v).toNat =
    if v.toNat ≤ 0x3F then 0 else if v.toNat ≤ 0x80 then 1 else if v.toNat ≤ 0xC0 then 2 else 3 := by
  by_cases hC0 : v = 0xC0
  · rw [hC0]; decide
  by_cases h80 : v = 0x80
  · rw [h80]; decide
  have hhigh : (v.extractLsb' 6 2).toNat = v.toNat / 64 := by
    have hlt := v.isLt
    rw [BitVec.extractLsb'_toNat, Nat.shiftRight_eq_div_pow]
    omega
  have hneC0 : v.toNat ≠ 0xC0 := fun h => hC0 (BitVec.eq_of_toNat_eq h)
  have hne80 : v.toNat ≠ 0x80 := fun h => h80 (BitVec.eq_of_toNat_eq h)
  rw [grayCode, if_neg hC0, if_neg h80, hhigh]
  split_ifs <;> omega

theorem white_eq (img : Raster) (v : Byte) :
    white img v = if img.depth = .one then decide (v ≠ 0) else decide (0x80 ≤ v.toNat) := by
  unfold white
  cases img.depth <;> simp [monoThreshold, BitVec.le_def, bne, beq_eq_decide]

theorem lum_toNat (img : Raster) (v : Byte) :
    (lum img v).toNat = if img.depth = .one then (if v = 0 then 0 else 0xFF) else v.toNat := by
  unfold lum
  cases img.depth
  · exact apply_ite BitVec.toNat (v = 0) 0x00 0xFF
  · rfl

theorem plane1Rule_eq (s : BitVec 2) : plane1Rule s = decide (s.toNat ≠ 3) := by
  decide +revert

theorem plane2Rule_eq (s : BitVec 2) : plane2Rule s = decide (s.toNat < 2) := by
  decide +revert

end PanelSpace

/-- Settles O16, bit by bit of the panel-space image. -/
theorem encMonoPacksThePanelImage : Obligations.EncMonoPacksThePanelImage := by
  refine fun img s => ⟨fun hfits => ?_, fun hfits => by rw [exec_encMono, encodeAnswer_of_not_fits hfits]⟩
  obtain ⟨o, ho⟩ := exists_orientation hfits
  refine ⟨encodeMono s.cfg o img, by rw [exec_encMono, encodeAnswer_of_orientation ho], encodeMono_length .., ?_⟩
  intro px py hpx hpy
  rw [pixelAt_eq_panelPixel ho, ← white_eq]
  exact panelBit_encodeMono o img hpx hpy

/-- Settles O17, code by code of the panel-space image. -/
theorem encGrayPacksThePanelImage : Obligations.EncGrayPacksThePanelImage := by
  refine fun img s => ⟨fun hfits => ?_, fun hfits => by rw [exec_encGray, encodeAnswer_of_not_fits hfits]⟩
  obtain ⟨o, ho⟩ := exists_orientation hfits
  refine ⟨encodeGray s.cfg o img, by rw [exec_encGray, encodeAnswer_of_orientation ho], encodeGray_length .., ?_⟩
  rintro px py hpx hpy v rfl
  rw [← panelCode_toNat, panelCode_encodeGray o img hpx hpy, pixelAt_eq_panelPixel ho, ← lum_toNat, grayCode_toNat]

/-- Settles O18, bit by bit of each plane. -/
theorem repackSplitsIntoPlanes : Obligations.RepackSplitsIntoPlanes := by
  refine fun g s => ⟨fun hlen => ?_, exec_repack_refused⟩
  refine ⟨_, _, exec_repack_ok hlen, repackPlane_length .., repackPlane_length .., ?_⟩
  rintro px py hpx hpy code rfl
  rw [← panelCode_toNat, ← plane1Rule_eq, ← plane2Rule_eq]
  exact ⟨panelBit_repackPlane plane1Rule g hpx hpy, panelBit_repackPlane plane2Rule g hpx hpy⟩

end Sys2Proof.Machine
end

section
/-! PROOFS. Images of one value, and a transposed image beside the same image turned (S1 to S3, R103). -/

namespace Sys2Proof.Machine

section UniformAndTurned

variable {c : Config} {o : Orientation} {img : Raster} {px py : Nat}

/-- Every pixel the same: the monochrome buffer is one byte throughout. -/
theorem encodeMono_uniform {v b : Byte} (ho : orientation c img = some o) (hwf : img.wellFormed = true)
    (hpix : ∀ p ∈ img.pix, p = v) (hb : ∀ j < 8, white img v = b.getLsbD (7 - j)) :
    encodeMono c o img = List.replicate (monoLen c) b := by
  refine monoBuffer_ext (encodeMono_length ..) List.length_replicate fun px py hpx hpy => ?_
  rw [panelBit_encodeMono o img hpx hpy, panelBit_replicate b hpx hpy, hpix _ (panelPixel_mem ho hwf hpx hpy)]
  exact hb _ (Nat.mod_lt _ (by decide))

/-- Every pixel the same: the grayscale buffer is one byte throughout. -/
theorem encodeGray_uniform {v b : Byte} (ho : orientation c img = some o) (hwf : img.wellFormed = true)
    (hpix : ∀ p ∈ img.pix, p = v) (hb : ∀ j < 4, grayCode (lum img v) = sample b j) :
    encodeGray c o img = List.replicate (grayLen c) b := by
  refine grayBuffer_ext (encodeGray_length ..) List.length_replicate fun px py hpx hpy => ?_
  rw [panelCode_encodeGray o img hpx hpy, panelCode_replicate b hpx hpy, hpix _ (panelPixel_mem ho hwf hpx hpy)]
  exact hb _ (Nat.mod_lt _ (by decide))

/-- A raster of the transposed shape and the same raster turned have one panel-space image (R103). -/
theorem panelPixel_turned {t w : Raster} (h : turned c t w) (hpx : px < width c) (hpy : py < height c) :
    panelPixel c .transposed t px py = panelPixel c .identity w px py := by
  obtain ⟨-, -, -, hpix⟩ := h
  exact (hpix px py hpx hpy).symm

theorem encodeMono_turned {t w : Raster} (h : turned c t w) :
    encodeMono c .transposed t = encodeMono c .identity w := by
  have ⟨_, _, hdepth, _⟩ := h
  refine monoBuffer_ext (encodeMono_length ..) (encodeMono_length ..) fun px py hpx hpy => ?_
  rw [panelBit_encodeMono _ _ hpx hpy, panelBit_encodeMono _ _ hpx hpy, panelPixel_turned h hpx hpy, white, white, hdepth]

theorem encodeGray_turned {t w : Raster} (h : turned c t w) :
    encodeGray c .transposed t = encodeGray c .identity w := by
  have ⟨_, _, hdepth, _⟩ := h
  refine grayBuffer_ext (encodeGray_length ..) (encodeGray_length ..) fun px py hpx hpy => ?_
  rw [panelCode_encodeGray _ _ hpx hpy, panelCode_encodeGray _ _ hpx hpy, panelPixel_turned h hpx hpy, lum, lum, hdepth]

end UniformAndTurned

/-- Settles O19: a pixel of the one value is white at either depth, a pixel of the other is not. -/
theorem allWhiteAndAllBlack : Obligations.AllWhiteAndAllBlack := by
  intro img s hfits hwf
  obtain ⟨o, ho⟩ := exists_orientation hfits
  rw [exec_encMono, encodeAnswer_of_orientation ho]
  constructor
  · intro hpix
    have hwhite : white img (if img.depth = .one then 0x01 else 0xFF) = true := by
      unfold white
      cases img.depth <;> rfl
    rw [encodeMono_uniform ho hwf hpix (b := 0xFF) (by rw [hwhite]; decide)]
    rfl
  · intro hpix
    have hblack : white img 0 = false := by
      unfold white
      cases img.depth <;> rfl
    rw [encodeMono_uniform ho hwf hpix (b := 0x00) (by rw [hblack]; decide)]
    rfl

/-- Settles O20: each byte holds the code of its luminance four times. -/
theorem uniformBucketsPackToOneByte : Obligations.UniformBucketsPackToOneByte := by
  intro img s v b hfits hwf hdepth hvb hpix
  obtain ⟨o, ho⟩ := exists_orientation hfits
  have hlum : lum img v = v := by rw [lum, hdepth]
  have hcodes : ∀ j < 4, grayCode v = sample b j := by
    simp only [List.mem_cons, Prod.mk.injEq, List.not_mem_nil, or_false] at hvb
    rcases hvb with ⟨rfl, rfl⟩ | ⟨rfl, rfl⟩ | ⟨rfl, rfl⟩ | ⟨rfl, rfl⟩
    · decide
    · decide
    · decide
    · decide
  rw [exec_encGray, encodeAnswer_of_orientation ho,
    encodeGray_uniform ho hwf hpix (by rw [hlum]; exact hcodes)]
  rfl

/-- Settles O21: both rasters have one panel-space image. -/
theorem transposedEncodesAsTurned : Obligations.TransposedEncodesAsTurned := by
  intro s t w hsquare hiw hih hturned
  have ⟨hwiw, hwih, _, _⟩ := hturned
  have ht : orientation s.cfg t = some .transposed :=
    orientation_transposed_iff.2 ⟨fun hid => hsquare (hid.1.symm.trans hiw), hiw, hih⟩
  have hw : orientation s.cfg w = some .identity := orientation_identity_iff.2 ⟨hwiw, hwih⟩
  constructor
  · rw [exec_encMono, exec_encMono, encodeAnswer_of_orientation ht, encodeAnswer_of_orientation hw,
      encodeMono_turned hturned]
  · rw [exec_encGray, exec_encGray, encodeAnswer_of_orientation ht, encodeAnswer_of_orientation hw,
      encodeGray_turned hturned]

end Sys2Proof.Machine
end

section
/-! PROOFS. The source's form of ENC_MONO, which clears the background bit of each black pixel (R102, R105). -/

namespace Sys2Proof.Machine

section Clearing

variable {c : Config} {o : Orientation} {img : Raster} {px py : Nat}

/-- Two panel pixels share a byte and a bit only when they are one (R42). -/
theorem panel_position_inj {qx qy : Nat} (hqx : qx < width c) (hpx : px < width c) :
    (qx + qy * width c) / 8 = (px + py * width c) / 8 ∧ 7 - px % 8 = 7 - qx % 8 ↔ (qx, qy) = (px, py) := by
  have hd := eight_dvd_width c
  constructor
  · rintro ⟨hbyte, hbit⟩
    have hrow : qy = py := by
      rw [← cell_row (py := qy) (by decide) hd hqx, hbyte, cell_row (by decide) hd hpx]
    have hcol : qx = px := by
      rw [← cell_column (py := qy) (by decide) hd hqx, hbyte, show qx % 8 = px % 8 by omega,
        cell_column (by decide) hd hpx]
    rw [hrow, hcol]
  · rintro ⟨rfl, rfl⟩
    exact ⟨rfl, rfl⟩

/-- Clearing a panel pixel clears its bit and no other (R105). -/
theorem panelBit_clearPixel {pos : Nat × Nat} (bs : List Byte) (hpos : pos.1 < width c) (hpx : px < width c) :
    panelBit c (clearPixel c pos bs) px py = (panelBit c bs px py && !decide (pos = (px, py))) := by
  rw [panelBit, clearPixel_bit c pos bs _ _ (by omega), panelBit]
  simp only [panel_position_inj hpos hpx]

/-- Row by row, entry `n` is the pixel at column `x` and row `y` (R41). -/
theorem eq_index_iff {n x y k : Nat} (hx : x < k) : n = x + y * k ↔ n % k = x ∧ n / k = y := by
  have hunique := Nat.div_mod_unique (a := n) (c := x) (d := y) (Nat.zero_lt_of_lt hx)
  rw [and_comm, hunique, Nat.mul_comm k, eq_comm]
  exact (and_iff_left hx).symm

/-- The remap sends the pixel listed at `n` to `(px, py)` just when that panel pixel is listed at `n` (R102, R103). -/
theorem remap_eq_iff (h : orientation c img = some o) {n : Nat} (hn : n < img.iw * img.ih) (hpx : px < width c)
    (hpy : py < height c) : remap c o (n % img.iw) (n / img.iw) = (px, py) ↔ n = rasterIndex c o img px py := by
  have hiw : 0 < img.iw := Nat.pos_of_mul_pos_right (Nat.zero_lt_of_lt hn)
  cases o with
  | identity =>
    obtain ⟨hw, -⟩ := orientation_identity_iff.1 h
    rw [remap, Prod.mk.injEq, rasterIndex, eq_index_iff (hw ▸ hpx)]
  | transposed =>
    obtain ⟨-, hw, -⟩ := orientation_transposed_iff.1 h
    have hcol := Nat.mod_lt n hiw
    rw [remap, Prod.mk.injEq, rasterIndex, eq_index_iff (by omega), and_comm]
    exact and_congr_left' (by omega)

theorem remap_column_lt (h : orientation c img = some o) {n : Nat} (hn : n < img.iw * img.ih) :
    (remap c o (n % img.iw) (n / img.iw)).1 < width c := by
  cases o with
  | identity =>
    obtain ⟨hw, -⟩ := orientation_identity_iff.1 h
    exact hw ▸ Nat.mod_lt n (Nat.pos_of_mul_pos_right (Nat.zero_lt_of_lt hn))
  | transposed =>
    obtain ⟨-, -, hh⟩ := orientation_transposed_iff.1 h
    exact hh ▸ Nat.div_lt_of_lt_mul hn

/-- The pixel listed at `n` clears the bit of its own panel position, if it is black. -/
theorem panelBit_clearBlackPixels_succ (h : orientation c img = some o) {n : Nat} (hn : n < img.iw * img.ih)
    (hpx : px < width c) (hpy : py < height c) : panelBit c (clearBlackPixels c o img (n + 1)) px py =
      (panelBit c (clearBlackPixels c o img n) px py &&
        (white img (img.pix.getD n 0) || !decide (n = rasterIndex c o img px py))) := by
  have hlisted : rasterPixel img (n % img.iw) (n / img.iw) = img.pix.getD n 0 := by
    rw [rasterPixel, Nat.mod_add_div']
  rw [clearBlackPixels, hlisted]
  split
  case isTrue hwhite => rw [hwhite, Bool.true_or, Bool.and_true]
  case isFalse hblack =>
    rw [panelBit_clearPixel _ (remap_column_lt h hn) hpx, Bool.eq_false_of_not_eq_true hblack, Bool.false_or]
    simp only [remap_eq_iff h hn hpx hpy]

/-- After the first `n` pixels, a bit is cleared when its pixel is among them and black. -/
theorem panelBit_clearBlackPixels (h : orientation c img = some o) (hpx : px < width c) (hpy : py < height c) {n : Nat}
    (hn : n ≤ img.iw * img.ih) : panelBit c (clearBlackPixels c o img n) px py =
      (decide (n ≤ rasterIndex c o img px py) || white img (panelPixel c o img px py)) := by
  rw [panelPixel_eq_getD]
  induction n with
  | zero =>
    have hones : ∀ j < 8, monoBg.getLsbD (7 - j) = true := by decide
    rw [clearBlackPixels, panelBit_replicate monoBg hpx hpy, hones _ (Nat.mod_lt _ (by decide)),
      decide_eq_true (Nat.zero_le _), Bool.true_or]
  | succ n ih =>
    rw [panelBit_clearBlackPixels_succ h hn hpx hpy, ih (Nat.le_of_succ_le hn)]
    by_cases hidx : n = rasterIndex c o img px py
    · simp [← hidx]
    · have hle : n + 1 ≤ rasterIndex c o img px py ↔ n ≤ rasterIndex c o img px py := by omega
      simp [hidx, hle]

/-- The two forms of R105 give the same bytes. -/
theorem encodeMonoByClearing_eq_encodeMono (h : orientation c img = some o) :
    encodeMonoByClearing c o img = encodeMono c o img := by
  refine monoBuffer_ext (clearBlackPixels_length ..) (encodeMono_length ..) fun px py hpx hpy => ?_
  rw [encodeMonoByClearing, panelBit_clearBlackPixels h hpx hpy le_rfl, panelBit_encodeMono o img hpx hpy,
    decide_eq_false (Nat.not_le.2 (rasterIndex_lt h hpx hpy)), Bool.false_or]

end Clearing

/-- Settles O58: after the last pixel every bit says whether its panel pixel is white. -/
theorem encMonoClearsTheBackground : Obligations.EncMonoClearsTheBackground := by
  intro img o s ho
  rw [exec_encMono, encodeAnswer_of_orientation ho, encodeMonoByClearing_eq_encodeMono ho]

end Sys2Proof.Machine
end

section
/-! PROOFS. The bus primitives as operations: RESET, the busy wait with its bound, and the one transfer of SEND_CMD,
SEND_DATA and SEND_BULK (R131 to R141, R302). -/

namespace Sys2Proof.Machine

/-! ### Operations of one step -/

/-- An operation whose one step is done answers OK where the step ends. -/
theorem runPlan_step_done {entry : List St} {a : Action} {s t : State} (hs : s.st ∈ entry)
    (h : runAction a s = .done t) : runPlan (planSteps entry true [a]) s = answerWith (.ok .none) t :=
  runPlan_done hs rfl rfl (runAll_cons_done h)

/-- An operation whose one step raises aborts where the step stopped (R257). -/
theorem runPlan_step_raised {entry : List St} {a : Action} {s t : State} {e : Raise} (hs : s.st ∈ entry)
    (h : runAction a s = .raised e t) : runPlan (planSteps entry true [a]) s = abort s.st e t :=
  runPlan_raised hs rfl rfl (runAll_cons_raised h)

/-! ### One transfer (R132, R134, R136) -/

section OneTransfer
variable {i : Instr} {a : Action} {d : St} {l : Level} {bs : List Byte} {s : State}

/-- An operation that is one transfer ends in the state after that transfer when the transfer succeeds. -/
theorem exec_send_ok (hplan : plan i s = planSteps entryReady true [a]) (ha : runAction a s = send d l bs s)
    (hs : s.st = .ready) (h : transfersSucceed 1 s) :
    exec i s = .next { sent 1 l (evTransfer l bs) s with answer := okAnswer } := by
  have hrun : runAction a s = .done (sent 1 l (evTransfer l bs) s) :=
    ha.trans (send_ok d l bs s (spiSucceeds_of_transfersSucceed h))
  rw [exec_eq_runPlan, hplan, runPlan_step_done (entry := entryReady) (List.mem_singleton.2 hs) hrun]
  rfl

/-- An operation that is one transfer aborts at it when the transfer fails, and puts `S.st` back (R133, R257). -/
theorem exec_send_fail (hplan : plan i s = planSteps entryReady true [a]) (ha : runAction a s = send d l bs s)
    (hs : s.st = .ready) (h : transferFailsAfter 0 s) : exec i s = .next (sendFailed 0 l bs [] s) := by
  have hrun := ha.trans (send_fail d l bs s (transferFailsAfter_zero h))
  rw [exec_eq_runPlan, hplan, runPlan_step_raised (entry := entryReady) (List.mem_singleton.2 hs) hrun]
  refine congrArg Host.Outcome.next ?_
  ext1 <;> simp [sendFailed, oracleSkip]

end OneTransfer

/-- Settles O26: SEND_CMD is one transfer of its byte at the command level. -/
theorem sendCmdIsOneCommandTransfer : Obligations.SendCmdIsOneCommandTransfer :=
  fun _ _ hs => ⟨exec_send_ok rfl rfl hs, exec_send_fail rfl rfl hs⟩

/-- Settles O27: SEND_DATA is one transfer of its byte at the data level. -/
theorem sendDataIsOneDataTransfer : Obligations.SendDataIsOneDataTransfer :=
  fun _ _ hs => ⟨exec_send_ok rfl rfl hs, exec_send_fail rfl rfl hs⟩

/-- Settles O28: SEND_BULK is one transfer of its bytes, however many, at the data level. -/
theorem sendBulkIsOneDataTransfer : Obligations.SendBulkIsOneDataTransfer :=
  fun _ _ hs => ⟨exec_send_ok rfl rfl hs, exec_send_fail rfl rfl hs⟩

/-! ### RESET (R138) -/

/-- RESET with the bus to be had: Acquire, then the pulse. -/
theorem exec_reset_ok {s : State} (hs : s.st ∈ entryVisible) (h : busTakes s) :
    exec .reset s = .next (answerWith (.ok .none) (resetPulse (tookBus s))) := by
  have hrun : runAll [.acquire, .resetPulse] s = .done (resetPulse (tookBus s)) := runAll_cons_done (acquire_ok s h)
  rw [exec_eq_runPlan]
  exact congrArg _ (runPlan_done hs rfl rfl hrun)

/-- RESET whose ModInit fails aborts there, before the pulse (R130). -/
theorem exec_reset_fail {s : State} (hs : s.st ∈ entryVisible) (h : ¬ busTakes s) :
    exec .reset s = .next (abort s.st (.hardwareInit (modInitStatus s)) (modInitCall s)) := by
  have hrun : runAll [.acquire, .resetPulse] s = .raised (.hardwareInit (modInitStatus s)) (modInitCall s) :=
    runAll_cons_raised (acquire_fail s h)
  rw [exec_eq_runPlan]
  exact congrArg _ (runPlan_raised hs rfl rfl hrun)

/-- Settles O23: the pulse follows a bus that is taken, and a ModInit that fails is the only event. -/
theorem resetPulsesAndAwaits : Obligations.ResetPulsesAndAwaits := by
  intro s hs
  refine ⟨fun htakes => ?_, fun hfails => ?_⟩
  · rw [exec_reset_ok hs htakes]
    refine congrArg Host.Outcome.next ?_
    ext1 <;> simp [okAnswer]
  · rw [exec_reset_fail hs hfails]
    rfl

/-! ### WAIT_IDLE (R140, R141) -/

/-- WAIT_IDLE that meets idle after `n` busy samples, within the bound. -/
theorem exec_waitIdle_ok {s : State} {n : Nat} (poll : Option Nat) (hs : s.st ∈ entryWait) (h : waitMeetsIdle n s) :
    exec (.waitIdle poll) s = .next { s with
      st := .ready
      trace := s.trace ++ evWait (poll.getD 20) n
      busy := oracleSkip (n + 1) s.busy
      answer := okAnswer } := by
  rw [exec_eq_runPlan]
  exact congrArg _ (runPlan_step_done hs (runAction_waitIdle_ok h))

/-- WAIT_IDLE that reads busy to its bound, with the entry value of `S.st` put back (R257). -/
theorem exec_waitIdle_timeout {s : State} (poll : Option Nat) (hs : s.st ∈ entryWait) (h : waitTimesOut s) :
    exec (.waitIdle poll) s = .next { s with
      trace := s.trace ++ evTimeout (poll.getD 20) (busyMaxPolls s.cfg - 1)
      busy := oracleSkip (busyMaxPolls s.cfg) s.busy
      answer := some (.error (.deviceNotResponding (busyMaxPolls s.cfg))) } := by
  rw [exec_eq_runPlan]
  exact congrArg _ (runPlan_step_raised (a := .waitIdle (pollOperand poll)) hs (waitIdle_timeout _ s h))

/-- Settles O24: the busy wait is the one step of the operation. -/
theorem waitIdlePollsToItsBound : Obligations.WaitIdlePollsToItsBound :=
  fun _ poll hs => ⟨fun _ hidle => exec_waitIdle_ok poll (mem_entryWait.2 hs) (waitsMeetIdle_first hidle),
    exec_waitIdle_timeout poll (mem_entryWait.2 hs)⟩

/-! ### The bound of a busy wait (R140, R302) -/

/-- Among any `k` samples of BUSY there is a first idle one, or all are busy. -/
theorem firstIdle_or_allBusy (free : Nat → Level) (k : Nat) (o : Oracle Level) :
    (∃ n, n + 1 ≤ k ∧ oracleAnswers free (n + 1) o = List.replicate n .l1 ++ [.l0]) ∨
      oracleAnswers free k o = List.replicate k .l1 := by
  induction k generalizing o with
  | zero => exact .inr rfl
  | succ k ih =>
    cases hnext : oracleNext free o with
    | l0 => exact .inl ⟨0, by omega, by simp [oracleAnswers, hnext]⟩
    | l1 =>
      rcases ih (oracleAdvance o) with ⟨n, hn, hidle⟩ | hbusy
      · refine .inl ⟨n + 1, by omega, ?_⟩
        rw [oracleAnswers, hnext, hidle]
        rfl
      · refine .inr ?_
        rw [oracleAnswers, hnext, hbusy]
        rfl

/-- Whatever ENV answers, a wait meets idle within its bound or reads busy to it. -/
theorem waitMeetsIdle_or_waitTimesOut (s : State) : (∃ n, waitMeetsIdle n s) ∨ waitTimesOut s :=
  firstIdle_or_allBusy Config.freeBusy (busyMaxPolls s.cfg) s.busy

/-- The milliseconds of delay an event asks for. -/
def delayOf (e : Event) : Nat :=
  match e with
  | .delay n => n
  | _ => 0

/-- At most `k` reads of BUSY and `k` delays of `poll` milliseconds, and no other event. -/
structure PollsWithin (poll k : Nat) (evs : List Event) : Prop where
  reads : (evs.filter fun e => e = .readBusy .l0 ∨ e = .readBusy .l1).length ≤ k
  delay : (evs.map delayOf).sum ≤ k * poll
  only : ∀ e ∈ evs, e = .readBusy .l0 ∨ e = .readBusy .l1 ∨ e = .delay poll

theorem PollsWithin.nil (poll k : Nat) : PollsWithin poll k [] :=
  ⟨Nat.zero_le _, Nat.zero_le _, by simp⟩

theorem PollsWithin.append {poll j k : Nat} {xs ys : List Event} (h : PollsWithin poll j xs)
    (g : PollsWithin poll k ys) : PollsWithin poll (j + k) (xs ++ ys) where
  reads := by
    rw [List.filter_append, List.length_append]
    exact Nat.add_le_add h.reads g.reads
  delay := by
    rw [List.map_append, List.sum_append, Nat.add_mul]
    exact Nat.add_le_add h.delay g.delay
  only e he := (List.mem_append.1 he).elim (h.only e) (g.only e)

theorem PollsWithin.mono {poll j k : Nat} {evs : List Event} (h : PollsWithin poll j evs) (hjk : j ≤ k) :
    PollsWithin poll k evs :=
  ⟨h.reads.trans hjk, h.delay.trans (Nat.mul_le_mul_right poll hjk), h.only⟩

theorem pollsWithin_read (poll : Nat) (l : Level) : PollsWithin poll 1 [.readBusy l] where
  reads := List.length_filter_le ..
  delay := Nat.zero_le _
  only := by cases l <;> simp

theorem pollsWithin_sample (poll : Nat) (l : Level) : PollsWithin poll 1 [.readBusy l, .delay poll] where
  reads := by cases l <;> simp
  delay := by simp [delayOf]
  only := by cases l <;> simp

theorem pollsWithin_evBusy (poll n : Nat) : PollsWithin poll n (evBusy poll n) := by
  induction n with
  | zero => exact .nil poll 0
  | succ n ih =>
    have hsplit : evBusy poll (n + 1) = [.readBusy .l1, .delay poll] ++ evBusy poll n := rfl
    rw [hsplit, Nat.add_comm]
    exact (pollsWithin_sample poll .l1).append ih

theorem pollsWithin_evWait (poll n : Nat) : PollsWithin poll (n + 1) (evWait poll n) :=
  (pollsWithin_evBusy poll n).append (pollsWithin_sample poll .l0)

theorem pollsWithin_evTimeout (poll n : Nat) : PollsWithin poll (n + 1) (evTimeout poll n) :=
  (pollsWithin_evBusy poll n).append (pollsWithin_read poll .l1)

/-- The events of WAIT_IDLE stay within its bound, whether it is refused, meets idle or times out. -/
theorem exec_waitIdle_pollsWithin {s t : State} {poll : Option Nat} (h : exec (.waitIdle poll) s = .next t) :
    ∃ more, t.trace = s.trace ++ more ∧ PollsWithin (poll.getD 20) (busyMaxPolls s.cfg) more := by
  by_cases hs : s.st ∈ entryWait
  · rcases waitMeetsIdle_or_waitTimesOut s with ⟨n, hidle⟩ | hbusy
    · cases (exec_waitIdle_ok poll hs hidle).symm.trans h
      exact ⟨_, rfl, (pollsWithin_evWait _ n).mono hidle.1⟩
    · cases (exec_waitIdle_timeout poll hs hbusy).symm.trans h
      exact ⟨_, rfl, pollsWithin_evTimeout _ s.cfg.pollsAfterFirst⟩
  · have hrefused : exec (.waitIdle poll) s = .next (refuse s) := congrArg _ (hostOp_refused (.inl hs))
    cases hrefused.symm.trans h
    exact ⟨[], (List.append_nil _).symm, .nil _ _⟩

/-- Settles O25: the wait ends within its bound on every sequence of samples. -/
theorem waitIdleIsBounded : Obligations.WaitIdleIsBounded := by
  intro s t poll h
  obtain ⟨more, htrace, hpolls⟩ := exec_waitIdle_pollsWithin h
  exact ⟨more, htrace, hpolls.reads, hpolls.delay, hpolls.only⟩

end Sys2Proof.Machine
end

section
/-! PROOFS. Wire commands asked for on their own: one transfer per byte, or the frame's two, and the abort at the transfer
that fails (R150 to R169, R223). -/

namespace Sys2Proof.Machine

/-! ### Operations sent in Ready -/

section InReady
variable {i : Instr} {as : List Action} {s t : State}

/-- An operation sent in Ready whose steps are done answers OK where they end. -/
theorem exec_ready_done (hplan : plan i s = planSteps entryReady true as) (hs : s.st = .ready)
    (hrun : runAll as s = .done t) : exec i s = .next (answerWith (.ok .none) t) := by
  rw [exec_eq_runPlan, hplan, runPlan_done (p := planSteps entryReady true as) (List.mem_singleton.2 hs) rfl rfl hrun]
  rfl

/-- An operation sent in Ready that raises at a transfer ends as `sendFailed` says, wherever the failing helper held `S.st`
(R133, R257). -/
theorem exec_ready_failed {n : Nat} {l : Level} {bs : List Byte} {evs : List Event}
    (hplan : plan i s = planSteps entryReady true as) (hs : s.st = .ready)
    (hrun : ∃ d, runAll as s =
      .raised (.busTransaction l bs) { sendFailed n l bs evs s with st := d, answer := s.answer }) :
    exec i s = .next (sendFailed n l bs evs s) := by
  obtain ⟨d, hrun⟩ := hrun
  rw [exec_eq_runPlan, hplan, runPlan_raised (p := planSteps entryReady true as) (List.mem_singleton.2 hs) rfl rfl hrun]
  rfl

end InReady

/-! ### Byte by byte (R150 to R166, R169) -/

/-- A row of the wire table is the command the model sends for it. -/
theorem plan_of_wireTable {i : Instr} {s : State} {w : WireCommand} (h : wireTable s.cfg i = some w) :
    plan i s = planWire w := by
  cases i
  case wireDriverOutputControl => cases h; exact congrArg planWire (cmdDriverOutput_eq s.cfg)
  case wireSetRamXWindow x0 x1 => cases h; exact congrArg planWire (cmdXWindow_eq x0 x1)
  case wireSetRamYWindow y0 y1 => cases h; exact congrArg planWire (cmdYWindow_eq y0 y1)
  case wireSetRamXAddrCounter x => cases h; exact congrArg planWire (cmdXCounter_eq x)
  case wireSetRamYAddrCounter y => cases h; exact congrArg planWire (cmdYCounter_eq y)
  case wireGateLineEnd => cases h; exact congrArg planWire (cmdGateLineEnd_eq s.cfg)
  case wireGateDrivingVoltage => cases h; exact congrArg planWire (cmdGateVoltage_eq s.cfg)
  case wireVcomRegister => cases h; exact congrArg planWire (cmdVcom_eq s.cfg)
  case wireBorderWaveform b => cases b <;> (cases h; rfl)
  case wireDisplayUpdateControl2 u => cases u <;> (cases h; rfl)
  all_goals cases h <;> rfl

/-- Settles O55: the wire table's command is the plan's, and a command is sent or aborted byte by byte. -/
theorem wireCommandsSendTheTable : Obligations.WireCommandsSendTheTable := by
  intro i s w htable hs
  have hplan : plan i s = planSteps entryReady true (wireActions w) := plan_of_wireTable htable
  refine ⟨fun hsucceed => exec_ready_done hplan hs (runAll_wire_ok w s hsucceed), fun k x hx hfail => ?_⟩
  rw [wireActions_eq_items, ← List.append_nil (List.map ..)] at hplan
  exact exec_ready_failed hplan hs (runAll_items_fail (itemList [w]) k x s hx hfail [])

/-! ### Frames (R167, R168, R223) -/

section Frame
variable (w : WireCommand) {s : State}

theorem runAll_frame_ok (h : transfersSucceed 2 s) :
    runAll (frameActions w) s = .done (sent 2 .l1 (evFrame w.op w.payload) s) := by
  obtain ⟨hop, hrest⟩ := transfersSucceed_add (m := 1) (n := 1) h
  have hsentOp : runAction (.sendCmd w.op) s = .done (sent 1 .l0 (evTransfer .l0 [w.op]) s) :=
    send_ok _ _ _ s (spiSucceeds_of_transfersSucceed hop)
  rw [frameActions, runAll_cons_done hsentOp, runAll_cons_done (a := .sendBulk w.payload)
    (send_ok _ _ w.payload _ (spiSucceeds_of_transfersSucceed (hrest _ _)))]
  exact congrArg Run.done (sent_sent ..)

/-- A frame whose command fails sends no buffer. -/
theorem runAll_frame_fail_command (h : transferFailsAfter 0 s) :
    ∃ d, runAll (frameActions w) s =
      .raised (.busTransaction .l0 [w.op]) { sendFailed 0 .l0 [w.op] [] s with st := d, answer := s.answer } := by
  obtain ⟨d, hfail⟩ := runAction_item_fail (.l0, w.op) s (transferFailsAfter_zero h)
  exact ⟨d, runAll_cons_raised hfail⟩

/-- A frame whose buffer fails has sent its command. -/
theorem runAll_frame_fail_data (h : transferFailsAfter 1 s) :
    ∃ d, runAll (frameActions w) s = .raised (.busTransaction .l1 w.payload)
      { sendFailed 1 .l1 w.payload (evTransfer .l0 [w.op]) s with st := d, answer := s.answer } := by
  obtain ⟨hop, hrest⟩ := transferFailsAfter_succ h
  have hsentOp : runAction (.sendCmd w.op) s = .done (sent 1 .l0 (evTransfer .l0 [w.op]) s) := send_ok _ _ _ s hop
  refine ⟨.transmittingData, ?_⟩
  rw [frameActions, runAll_cons_done hsentOp, runAll_cons_raised (a := .sendBulk w.payload)
    (send_fail _ _ w.payload _ (transferFailsAfter_zero (hrest _ _)))]
  rfl

end Frame

/-- Settles O56: the frame's two transfers, and the length that the wrapper asks for. -/
theorem frameCommandsSendTheBuffer : Obligations.FrameCommandsSendTheBuffer := by
  intro s bs i op hrow hs
  have hplan : plan i s = planFrame s.cfg ⟨op, bs⟩ := by
    simp only [List.mem_cons, List.not_mem_nil, or_false, Prod.mk.injEq] at hrow
    rcases hrow with ⟨rfl, rfl⟩ | ⟨rfl, rfl⟩ <;> rfl
  have hsteps (hlen : bs.length = monoLen s.cfg) : plan i s = planSteps entryReady true (frameActions ⟨op, bs⟩) := by
    rw [hplan, planFrame, beq_iff_eq.2 hlen]
  refine ⟨fun hlen hsucceed => ?_, fun hlen hfail => ?_, fun hlen hfail => ?_, fun hlen => ?_⟩
  · exact exec_ready_done (hsteps hlen) hs (runAll_frame_ok _ hsucceed)
  · exact exec_ready_failed (hsteps hlen) hs (runAll_frame_fail_command _ hfail)
  · exact exec_ready_failed (hsteps hlen) hs (runAll_frame_fail_data _ hfail)
  · rw [exec_eq_runPlan, hplan]
    exact congrArg _ (hostOp_refused (.inr (beq_eq_false_iff_ne.2 hlen)))

end Sys2Proof.Machine
end

section
/-! PROOFS. The command items an operation puts on the wire are the opcodes its steps send, and these stand in its row of the
table (R31, R87, R170). -/

namespace Sys2Proof.Machine

/-! ### Command items of a trace -/

theorem wireFrom_append (l : Option Level) (xs ys : List Event) :
    wireFrom l (xs ++ ys) = wireFrom l xs ++ wireFrom (latchFrom .dc l xs) ys := by
  induction xs generalizing l with
  | nil => rfl
  | cons e xs ih =>
    cases e with
    | xfer bs => exact (congrArg (itemsOf l bs ++ ·) (ih l)).trans (List.append_assoc ..).symm
    | write p v => cases p <;> exact ih _
    | xferFail bs => exact ih l
    | readBusy v => exact ih l
    | delay n => exact ih l
    | modInit n => exact ih none
    | modExit => exact ih none

/-- Events without a successful transfer put nothing on the wire. -/
theorem wireFrom_of_no_xfer {evs : List Event} (h : ∀ e ∈ evs, e.isXfer = false) (l : Option Level) :
    wireFrom l evs = [] := by
  induction evs generalizing l with
  | nil => rfl
  | cons e evs ih =>
    obtain ⟨he, hrest⟩ := List.forall_mem_cons.1 h
    cases e with
    | xfer bs => cases he
    | write p v => exact ih hrest _
    | xferFail bs => exact ih hrest l
    | readBusy v => exact ih hrest l
    | delay n => exact ih hrest l
    | modInit n => exact ih hrest none
    | modExit => exact ih hrest none

/-- From `s` to `t` the trace has gained events whose command items are all among `ops`, whatever the level of DC before. -/
def CommandsWithin (ops : Byte → Prop) (s t : State) : Prop :=
  ∃ evs, t.trace = s.trace ++ evs ∧ ∀ l b, WireItem.c b ∈ wireFrom l evs → ops b

section Within
variable {ops : Byte → Prop} {s t u : State}

theorem CommandsWithin.trans (h : CommandsWithin ops s t) (k : CommandsWithin ops t u) : CommandsWithin ops s u := by
  obtain ⟨xs, hxs, hx⟩ := h
  obtain ⟨ys, hys, hy⟩ := k
  refine ⟨xs ++ ys, by rw [hys, hxs, List.append_assoc], fun l b hb => ?_⟩
  rw [wireFrom_append] at hb
  exact (List.mem_append.1 hb).elim (hx l b) (hy _ b)

theorem CommandsWithin.mono {ops' : Byte → Prop} (h : CommandsWithin ops s t) (hops : ∀ b, ops b → ops' b) :
    CommandsWithin ops' s t := by
  obtain ⟨evs, htrace, hitems⟩ := h
  exact ⟨evs, htrace, fun l b hb => hops b (hitems l b hb)⟩

theorem commandsWithin_of_no_xfer {evs : List Event} (htrace : t.trace = s.trace ++ evs)
    (h : ∀ e ∈ evs, e.isXfer = false) : CommandsWithin ops s t :=
  ⟨evs, htrace, fun l b hb => by rw [wireFrom_of_no_xfer h] at hb; cases hb⟩

theorem commandsWithin_of_same_trace (htrace : t.trace = s.trace) : CommandsWithin ops s t :=
  commandsWithin_of_no_xfer (evs := []) (by rw [htrace, List.append_nil]) nofun

end Within

/-- A transfer puts the items of its DC level on the wire when it succeeds, and nothing when it fails (R31). -/
theorem send_commandsWithin {ops : Byte → Prop} {l : Level} {bs : List Byte}
    (hitems : ∀ b, WireItem.c b ∈ itemsOf (some l) bs → ops b) (d : St) (s : State) :
    CommandsWithin ops s (runState (send d l bs s)) := by
  cases h : spiSucceeds s with
  | true =>
    rw [send_ok d l bs s h]
    refine ⟨evTransfer l bs, rfl, fun k b hb => hitems b ?_⟩
    simpa [evTransfer, wireFrom] using hb
  | false =>
    rw [send_fail d l bs s h]
    exact commandsWithin_of_no_xfer (evs := evFailed l bs) rfl (by simp [evFailed, Event.isXfer])

theorem data_items_no_command {b : Byte} {bs : List Byte} : WireItem.c b ∉ itemsOf (some .l1) bs := by
  simp [itemsOf]

theorem PollsWithin.no_xfer {poll k : Nat} {evs : List Event} (h : PollsWithin poll k evs) :
    ∀ e ∈ evs, e.isXfer = false := by
  intro e he
  rcases h.only e he with rfl | rfl | rfl <;> rfl

theorem waitIdle_commandsWithin (ops : Byte → Prop) (poll : Nat) (s : State) :
    CommandsWithin ops s (runState (waitIdleHelper poll s)) := by
  rcases waitMeetsIdle_or_waitTimesOut s with ⟨n, hbound, hidle⟩ | hbusy
  · rw [waitIdle_ok poll n s hbound hidle]
    exact commandsWithin_of_no_xfer rfl (pollsWithin_evWait poll n).no_xfer
  · rw [waitIdle_timeout poll s hbusy]
    exact commandsWithin_of_no_xfer rfl (pollsWithin_evTimeout poll _).no_xfer

theorem acquire_commandsWithin (ops : Byte → Prop) (s : State) : CommandsWithin ops s (runState (acquire s)) := by
  have hmodInit : ∀ e ∈ [Event.modInit (modInitStatus s)], e.isXfer = false := by simp [Event.isXfer]
  unfold acquire
  split_ifs
  · exact commandsWithin_of_same_trace rfl
  · exact commandsWithin_of_no_xfer rfl hmodInit
  · exact commandsWithin_of_no_xfer rfl hmodInit

/-- The only step that puts a command item on the wire is SendCmd, and the item is its operand (R132, R134, R136). -/
theorem runAction_commandsWithin (a : Action) (s : State) :
    CommandsWithin (fun b => a = .sendCmd b) s (runState (runAction a s)) := by
  cases a with
  | acquire => exact acquire_commandsWithin _ s
  | resetPulse => exact commandsWithin_of_no_xfer (resetPulse_trace s) (by decide)
  | waitIdle poll => exact waitIdle_commandsWithin _ poll s
  | sendCmd op => exact send_commandsWithin (by simp [itemsOf, dcCommand, eq_comm]) _ s
  | sendData b => exact send_commandsWithin (fun _ h => absurd h data_items_no_command) _ s
  | sendBulk bs => exact send_commandsWithin (fun _ h => absurd h data_items_no_command) _ s
  | beginTrigger => exact commandsWithin_of_same_trace rfl
  | markLutLoaded => exact commandsWithin_of_same_trace rfl
  | setMode m => exact commandsWithin_of_same_trace rfl
  | delay n => exact commandsWithin_of_no_xfer (evs := [.delay n]) rfl (by simp [Event.isXfer])
  | endSession => exact commandsWithin_of_no_xfer (evs := [.modExit]) rfl (by decide)
  | countRefresh m => exact commandsWithin_of_same_trace (by simp [runAction, runState])
  | store d => exact commandsWithin_of_same_trace rfl

/-- An instruction puts no command item on the wire but the opcodes its steps send. -/
theorem exec_commandsWithin {i : Instr} {s t : State} (h : exec i s = .next t) :
    CommandsWithin (fun b => .sendCmd b ∈ (plan i s).actions) s t := by
  rw [exec_eq_runPlan] at h
  cases h
  have start : CommandsWithin (fun b => .sendCmd b ∈ (plan i s).actions) s s := commandsWithin_of_same_trace rfl
  refine runPlan_keeps (P := CommandsWithin _ s) (fun _ _ _ hu => hu) start
    (runAll_keeps (CommandsWithin _ s) (fun a ha u hu => ?_) start)
  exact hu.trans ((runAction_commandsWithin a u).mono fun b hb => hb ▸ ha)

/-! ### The opcodes of each operation's steps (R170) -/

section Steps
variable {b : Byte} {c : Config} {m : Mode} {loaded : Bool}

@[simp] theorem sendCmd_mem_wireActions {w : WireCommand} : .sendCmd b ∈ wireActions w ↔ b = w.op := by
  simp [wireActions]

@[simp] theorem sendCmd_mem_frameActions {w : WireCommand} : .sendCmd b ∈ frameActions w ↔ b = w.op := by
  simp [frameActions]

theorem sendCmd_mem_commands {ws : List WireCommand} :
    .sendCmd b ∈ ws.flatMap wireActions ↔ b ∈ ws.map WireCommand.op := by
  simp [eq_comm]

theorem sendCmd_mem_setWindow {w : Window} (h : .sendCmd b ∈ setWindowActions w) : b ∈ [0x44, 0x45] := by
  simpa [setWindowActions, cmdXWindow, opXWindow, cmdYWindow, opYWindow] using h

theorem sendCmd_mem_setCursor {x : BitVec 10} {y : BitVec 16} (h : .sendCmd b ∈ setCursorActions x y) :
    b ∈ [0x4E, 0x4F] := by
  simpa [setCursorActions, cmdXCounter, opXCounter, cmdYCounter, opYCounter] using h

theorem sendCmd_mem_loadLut (h : .sendCmd b ∈ loadLutActions c) : b ∈ [0x32, 0x03, 0x04, 0x2C] := by
  simpa [loadLutActions_eq, sendCmd_mem_commands, listLut] using h

/-- The opcodes of the common register block (R202). -/
theorem sendCmd_mem_commonRegs {border : Border} (h : .sendCmd b ∈ commonRegsActions c border) : b ∈ regOpcodes := by
  rw [commonRegsActions_eq] at h
  exact sendCmd_mem_commands.1 h

theorem sendCmd_mem_fastFlag (h : .sendCmd b ∈ fastFlagActions) : b ∈ [0x22, 0x20] := by
  simpa [fastFlagActions, cmdUpdateControl, opUpdateControl, cmdMasterActivation, opMasterActivation] using h

theorem sendCmd_mem_trigger (h : .sendCmd b ∈ triggerActions m) : b ∈ [0x22, 0x20] := by
  rw [triggerActions_eq] at h
  simpa [sendCmd_mem_commands, listTrigger] using h

theorem sendCmd_mem_sleep (h : .sendCmd b ∈ sleepActions c) : b = 0x10 := by
  simpa [sleepActions, cmdDeepSleep, opDeepSleep] using h

/-- The opcodes of an initialisation, by the record of its mode (R206). -/
def initOpcodes (m : Mode) (loaded : Bool) : List Byte :=
  (if (modeRecord m).sendsReset then [0x12] else []) ++ regOpcodes ++
    (if (modeRecord m).fastFlag then [0x22, 0x20] else []) ++
    (if (modeRecord m).lutRequired && !loaded then [0x32, 0x03, 0x04, 0x2C] else [])

/-- INIT in a mode. -/
def initInstr (m : Mode) : Instr :=
  match m with
  | .full => .initFull
  | .fast => .initFast
  | .part => .initPartial
  | .grayscale => .initGrayscale

theorem initOpcodes_mayCommand (m : Mode) (loaded : Bool) :
    ∀ b ∈ initOpcodes m loaded, mayCommand (initInstr m) b = true := by
  cases m <;> cases loaded <;> decide

theorem sendCmd_mem_init (h : .sendCmd b ∈ initActions c loaded m) : b ∈ initOpcodes m loaded := by
  simp only [initActions, List.mem_append] at h
  simp only [initOpcodes, List.mem_append]
  rcases h with (((((hstart | hreset) | hregs) | hwait) | hfast) | hlut) | hmode
  · simp at hstart
  · split_ifs at hreset with hsends
    · rw [if_pos hsends]
      exact .inl (.inl (.inl (by simpa [cmdResetDeepSleep, opResetDeepSleep] using hreset)))
    · cases hreset
  · exact .inl (.inl (.inr (sendCmd_mem_commonRegs hregs)))
  · simp at hwait
  · split_ifs at hfast with hflag
    · rw [if_pos hflag]
      exact .inl (.inr (sendCmd_mem_fastFlag hfast))
    · cases hfast
  · split_ifs at hlut with hloads
    · rw [if_pos hloads]
      exact .inr (sendCmd_mem_loadLut (by simpa using hlut))
    · cases hlut
  · simp at hmode

/-- The opcodes of a refresh that runs in mode `m`: those of its initialisation, its frames and its trigger (R220). -/
def refreshOpcodes (m : Mode) (loaded : Bool) : List Byte :=
  initOpcodes m loaded ++ (if m = .grayscale then [0x24, 0x26] else [0x24]) ++ [0x22, 0x20]

theorem sendCmd_mem_refresh {buf : List Byte} (h : .sendCmd b ∈ refreshActions c loaded m buf) :
    b ∈ refreshOpcodes m loaded := by
  simp only [refreshActions, List.mem_append] at h
  simp only [refreshOpcodes, List.mem_append]
  rcases h with ((hinit | hframes) | htrigger) | hcount
  · exact .inl (.inl (sendCmd_mem_init hinit))
  · refine .inl (.inr ?_)
    cases m <;> simpa [frameTransfers, cmdRamPlane1, opRamPlane1, cmdRamPlane2, opRamPlane2] using hframes
  · exact .inr (sendCmd_mem_trigger htrigger)
  · simp at hcount

theorem refreshOpcodes_mono {m : Mode} (hm : m ≠ .grayscale) (loaded : Bool) :
    ∀ b ∈ refreshOpcodes m loaded, ([0x12, 0x22, 0x20, 0x24] ++ regOpcodes).contains b = true := by
  cases m with
  | grayscale => exact absurd rfl hm
  | full => cases loaded <;> decide
  | fast => cases loaded <;> decide
  | part => cases loaded <;> decide

theorem refreshOpcodes_any (m : Mode) (loaded : Bool) : ∀ b ∈ refreshOpcodes m loaded,
    ([0x12, 0x22, 0x20, 0x32, 0x03, 0x04, 0x2C, 0x24, 0x26] ++ regOpcodes).contains b = true := by
  cases m <;> cases loaded <;> decide

theorem selectMode_ne_grayscale {m : Mode} (hm : m ≠ .grayscale) (s : State) (pp : Bool) :
    selectMode s m pp ≠ .grayscale := by
  rcases selectMode_cases s m pp with ⟨hpart, -⟩ | hsame
  · rw [hpart]; decide
  · rwa [hsame]

/-- A monochrome REFRESH or UPDATE, in whichever mode it runs. -/
theorem sendCmd_mem_refresh_mono {s : State} {buf : List Byte} {pp : Bool} (hm : m ≠ .grayscale)
    (h : .sendCmd b ∈ refreshActions c loaded (selectMode s m pp) buf) :
    ([0x12, 0x22, 0x20, 0x24] ++ regOpcodes).contains b = true :=
  refreshOpcodes_mono (selectMode_ne_grayscale hm s pp) loaded b (sendCmd_mem_refresh h)

/-- A grayscale REFRESH or UPDATE, in whichever mode it runs. -/
theorem sendCmd_mem_refresh_any {buf : List Byte} (h : .sendCmd b ∈ refreshActions c loaded m buf) :
    ([0x12, 0x22, 0x20, 0x32, 0x03, 0x04, 0x2C, 0x24, 0x26] ++ regOpcodes).contains b = true :=
  refreshOpcodes_any m loaded b (sendCmd_mem_refresh h)

/-- What an UPDATE sends, its refresh sends: the store sends nothing. -/
theorem sendCmd_mem_update {img : Raster} {pp force : Bool} {s : State}
    (h : .sendCmd b ∈ (planUpdate m img pp force s).actions) :
    ∃ buf, .sendCmd b ∈ refreshActions s.cfg s.lutLoaded (selectMode s m pp) buf :=
  (mem_planUpdate h).resolve_right nofun

end Steps

/-- The opcodes a host operation's steps send stand in its row of the table. -/
theorem mayCommand_of_mem_plan {i : Instr} {s : State} {b : Byte} (hi : isHostOp i = true)
    (h : .sendCmd b ∈ (plan i s).actions) : mayCommand i b = true := by
  cases i
  case encMono => cases h
  case encGray => cases h
  case repack => cases h
  case fpCompute => cases h
  case shouldUpdate => cases h
  case reset => simp [plan, planSteps] at h
  case waitIdle => simp [plan, planSteps] at h
  case sendData => simp [plan, planSteps] at h
  case sendBulk => simp [plan, planSteps] at h
  case sendCmd op =>
    obtain rfl : b = op := by simpa [plan, planSteps] using h
    exact beq_self_eq_true b
  case setWindow => exact List.contains_iff_mem.2 (sendCmd_mem_setWindow h)
  case setCursor => exact List.contains_iff_mem.2 (sendCmd_mem_setCursor h)
  case loadLut => exact List.contains_iff_mem.2 (sendCmd_mem_loadLut h)
  case sleep => exact beq_iff_eq.2 (sendCmd_mem_sleep h)
  case triggerFull => exact List.contains_iff_mem.2 (sendCmd_mem_trigger h)
  case triggerFast => exact List.contains_iff_mem.2 (sendCmd_mem_trigger h)
  case triggerPartial => exact List.contains_iff_mem.2 (sendCmd_mem_trigger h)
  case triggerGrayscale => exact List.contains_iff_mem.2 (sendCmd_mem_trigger h)
  case initFull => exact initOpcodes_mayCommand .full s.lutLoaded b (sendCmd_mem_init h)
  case initFast => exact initOpcodes_mayCommand .fast s.lutLoaded b (sendCmd_mem_init h)
  case initPartial => exact initOpcodes_mayCommand .part s.lutLoaded b (sendCmd_mem_init h)
  case initGrayscale => exact initOpcodes_mayCommand .grayscale s.lutLoaded b (sendCmd_mem_init h)
  case refreshFull => exact sendCmd_mem_refresh_mono (by decide) h
  case refreshFast => exact sendCmd_mem_refresh_mono (by decide) h
  case refreshGrayscale => exact sendCmd_mem_refresh_any h
  case updateFull =>
    obtain ⟨_, hrefresh⟩ := sendCmd_mem_update h
    exact sendCmd_mem_refresh_mono (by decide) hrefresh
  case updateFast =>
    obtain ⟨_, hrefresh⟩ := sendCmd_mem_update h
    exact sendCmd_mem_refresh_mono (by decide) hrefresh
  case updateGrayscale =>
    obtain ⟨_, hrefresh⟩ := sendCmd_mem_update h
    exact sendCmd_mem_refresh_any hrefresh
  all_goals cases hi

/-- Settles O15: what an operation adds to the wire, its steps send, and its steps keep to its row. -/
theorem onlyTableOpcodesAreSent : Obligations.OnlyTableOpcodesAreSent := by
  intro i s t more b hi h htrace hitem
  obtain ⟨evs, hevs, hsteps⟩ := exec_commandsWithin h
  obtain rfl : more = evs := List.append_cancel_left (htrace.symm.trans hevs)
  exact mayCommand_of_mem_plan hi (hsteps none b hitem)

end Sys2Proof.Machine
end

section
/-! PROOFS. The register operations: wire commands sent byte by byte in Ready, the table with its flag, the trigger with its
wait, and the end of a session (R180 to R188). -/

namespace Sys2Proof.Machine

/-! ### Operations made of wire commands -/

section OfCommands
variable {i : Instr} {as rest : List Action} {ws : List WireCommand} {s t : State}

/-- An operation sent in Ready whose steps raise aborts where they stopped, Ready again (R257). -/
theorem exec_ready_raised {e : Raise} (hplan : plan i s = planSteps entryReady true as) (hs : s.st = .ready)
    (hrun : runAll as s = .raised e t) : exec i s = .next (abort .ready e t) := by
  rw [exec_eq_runPlan, hplan, runPlan_raised (p := planSteps entryReady true as) (List.mem_singleton.2 hs) rfl rfl hrun,
    hs]

/-- Wire commands whose `n` transfers all succeed, the last of them with DC at `l`. -/
theorem runAll_commands_sent {n : Nat} {l : Level} (hdc : ws.getLast?.map commandDc = some l)
    (hn : (itemList ws).length = n) (h : transfersSucceed n s) :
    runAll (ws.flatMap wireActions) s = .done (sent n l (evCommands ws) s) := by
  obtain ⟨w, hlast, rfl⟩ := Option.map_eq_some_iff.1 hdc
  obtain ⟨us, rfl⟩ := List.getLast?_eq_some_iff.1 hlast
  subst hn
  exact runAll_commands_ok us w s h

/-- An operation that sends wire commands, after at most a write of `S.st` and whatever follows them, aborts at the
transfer that fails (R133, R257). -/
theorem abortsAtFailure_of_runAll (v : St) (hplan : plan i s = planSteps entryReady true as) (hs : s.st = .ready)
    (hrun : runAll as s = runAll (ws.flatMap wireActions ++ rest) (setSt v s)) : abortsAtFailure i ws s := by
  intro k x hx hfail
  rw [commands_eq_items] at hrun
  obtain ⟨d, hraised⟩ := runAll_items_fail (itemList ws) k x (setSt v s) hx hfail rest
  exact exec_ready_failed hplan hs ⟨d, hrun.trans hraised⟩

/-- An operation whose steps begin with wire commands aborts at the transfer that fails. -/
theorem abortsAtFailure_of_commands (hplan : plan i s = planSteps entryReady true (ws.flatMap wireActions ++ rest))
    (hs : s.st = .ready) : abortsAtFailure i ws s :=
  abortsAtFailure_of_runAll s.st hplan hs rfl

/-- An operation that is wire commands and nothing else, sent whole or aborted at the transfer that fails. -/
theorem exec_commands {n : Nat} {l : Level} (hplan : plan i s = planSteps entryReady true (ws.flatMap wireActions))
    (hs : s.st = .ready) (hdc : ws.getLast?.map commandDc = some l) (hn : (itemList ws).length = n) :
    (transfersSucceed n s → exec i s = .next { sent n l (evCommands ws) s with answer := okAnswer }) ∧
      abortsAtFailure i ws s :=
  ⟨fun h => exec_ready_done hplan hs (runAll_commands_sent hdc hn h),
    abortsAtFailure_of_commands (rest := []) (by rwa [List.append_nil]) hs⟩

end OfCommands

/-! ### SET_WINDOW, SET_CURSOR (R180, R182) -/

theorem setWindowActions_eq (w : Window) : setWindowActions w =
    [listXWindow w.x0.toNat w.x1.toNat, listYWindow w.y0.toNat w.y1.toNat].flatMap wireActions := by
  simp [setWindowActions, cmdXWindow_eq, cmdYWindow_eq]

theorem setCursorActions_eq (x : BitVec 10) (y : BitVec 16) :
    setCursorActions x y = [listXCounter x.toNat, listYCounter y.toNat].flatMap wireActions := by
  simp [setCursorActions, cmdXCounter_eq, cmdYCounter_eq]

/-- Settles O29: the two windows are two wire commands of five transfers each. -/
theorem setWindowSendsTwoCommands : Obligations.SetWindowSendsTwoCommands :=
  fun _ x0 y0 x1 y1 hs =>
    exec_commands (congrArg (planSteps entryReady true) (setWindowActions_eq ⟨x0, y0, x1, y1⟩)) hs rfl rfl

/-- Settles O30: the two counters are two wire commands of three transfers each. -/
theorem setCursorSendsTwoCommands : Obligations.SetCursorSendsTwoCommands :=
  fun _ x y hs => exec_commands (congrArg (planSteps entryReady true) (setCursorActions_eq x y)) hs rfl rfl

/-! ### LOAD_LUT (R184, R185) -/

theorem itemList_listLut_length (c : Config) : (itemList (listLut c)).length = 114 := by
  simp [itemList, listLut]

/-- The steps of the table, with the flag it sets after the last transfer (R184). -/
theorem runAll_loadLut_ok {s : State} (h : transfersSucceed 114 s) :
    runAll ((listLut s.cfg).flatMap wireActions ++ [.markLutLoaded]) s =
      .done { sent 114 .l1 (evCommands (listLut s.cfg)) s with lutLoaded := true } :=
  runAll_append_done (runAll_commands_sent rfl (itemList_listLut_length s.cfg) h)

theorem plan_loadLut {s : State} (h : s.lutLoaded = false) :
    plan .loadLut s = planSteps entryReady true ((listLut s.cfg).flatMap wireActions ++ [.markLutLoaded]) := by
  rw [← loadLutActions_eq, plan, h, Bool.not_false]

theorem exec_loadLut_refused {s : State} (h : s.lutLoaded = true) : exec .loadLut s = .next (refuse s) := by
  have hrefused : (plan .loadLut s).accepted = false := by rw [plan, planSteps, h, Bool.not_true]
  rw [exec_eq_runPlan]
  exact congrArg _ (hostOp_refused (.inr hrefused))

/-- Settles O31: the four commands of the table, then its mark; the wrapper refuses a table loaded before. -/
theorem loadLutSendsTheTableOnce : Obligations.LoadLutSendsTheTableOnce :=
  fun _ hs => ⟨fun hlut hsucceed => exec_ready_done (plan_loadLut hlut) hs (runAll_loadLut_ok hsucceed),
    fun hlut => abortsAtFailure_of_commands (plan_loadLut hlut) hs, exec_loadLut_refused⟩

/-! ### TRIGGER.m (R186) -/

theorem runAll_trigger (m : Mode) (s : State) : runAll (triggerActions m) s =
    runAll ((listTrigger m).flatMap wireActions ++ [.waitIdle 20]) (setSt .triggeringRefresh s) := by
  rw [triggerActions_eq]
  rfl

/-- The state in which a trigger makes its wait. -/
def triggered (m : Mode) (s : State) : State :=
  setSt .triggeringRefresh (sent 3 .l0 (evCommands (listTrigger m)) s)

/-- A trigger whose transfers succeed comes to its wait. -/
theorem runAll_trigger_sent {s : State} (m : Mode) (h : transfersSucceed 3 s) : runAll (triggerActions m) s =
    runAll [.waitIdle 20] (triggered m s) :=
  (runAll_trigger m s).trans (runAll_append_done (runAll_commands_sent rfl rfl h))

/-- The four triggers, by mode. -/
theorem plan_trigger {i : Instr} {m : Mode} {s : State} (h : (i, m) ∈ [(Instr.triggerFull, Mode.full),
    (.triggerFast, .fast), (.triggerPartial, .part), (.triggerGrayscale, .grayscale)]) :
    plan i s = planSteps entryReady true (triggerActions m) := by
  simp only [List.mem_cons, List.not_mem_nil, or_false, Prod.mk.injEq] at h
  rcases h with ⟨rfl, rfl⟩ | ⟨rfl, rfl⟩ | ⟨rfl, rfl⟩ | ⟨rfl, rfl⟩ <;> rfl

/-- Settles O32: a trigger sends its two commands and is then a busy wait; the wrapper puts Ready back. -/
theorem triggerActivatesAndWaits : Obligations.TriggerActivatesAndWaits := by
  intro s i m hrow hs
  have hplan := plan_trigger (s := s) hrow
  refine ⟨fun n hsucceed hidle => ?_, abortsAtFailure_of_runAll .triggeringRefresh hplan hs (runAll_trigger m s),
    fun hsucceed hbusy => ?_⟩
  · have hwait : waitMeetsIdle n (triggered m s) := waitsMeetIdle_first hidle
    have hrun := (runAll_trigger_sent m hsucceed).trans (runAll_cons_done (runAction_waitIdle_ok hwait))
    rw [exec_ready_done hplan hs hrun]
    refine congrArg Host.Outcome.next ?_
    ext1 <;> simp [triggered, sent, okAnswer, hs]
  · have hwait : waitTimesOut (triggered m s) := hbusy
    have hrun := (runAll_trigger_sent m hsucceed).trans (runAll_cons_raised (waitIdle_timeout 20 _ hwait))
    rw [exec_ready_raised hplan hs hrun]
    refine congrArg Host.Outcome.next ?_
    ext1 <;> simp [triggered, sent, hs]

/-! ### SLEEP (R188) -/

theorem runAll_sleep_ok {s : State} (h : transfersSucceed 2 s) : runAll (sleepActions s.cfg) s =
    .done (endSession (modExitCall (delayMs s.cfg.sleepDelayMs (sent 2 .l1 (evCommand ⟨0x10, [0x01]⟩) s)))) :=
  runAll_append_done (runAll_wire_ok ⟨0x10, [0x01]⟩ s h)

/-- Settles O33: the deep-sleep command, then two steps that cannot fail. -/
theorem sleepEndsTheSession : Obligations.SleepEndsTheSession := by
  intro s hs
  refine ⟨fun hsucceed => ?_, abortsAtFailure_of_commands (rest := [.delay s.cfg.sleepDelayMs, .endSession]) rfl hs⟩
  rw [exec_ready_done rfl hs (runAll_sleep_ok hsucceed)]
  refine congrArg Host.Outcome.next ?_
  ext1 <;> simp [sent, okAnswer]

end Sys2Proof.Machine
end

section
/-! PROOFS. The initialisations: with the bus to be had, every transfer succeeding and idle met in every wait, each leaves
the state of its listing, block by block (R200 to R205). -/

namespace Sys2Proof.Machine

/-! ### The state after blocks -/

/-- The events of blocks whose k-th wait meets idle after `ns[k]` busy samples. -/
def Block.eventsAll : List Block → List Nat → List Event
  | b :: bs, ns => evCommands b.all ++ evWait 20 (ns.getD 0 0) ++ Block.eventsAll bs ns.tail
  | [], _ => []

/-- What blocks do to the state together. -/
theorem Block.afterAll_eq {bs : List Block} {ns : List Nat} (hne : bs ≠ []) (hlen : ns.length = bs.length) (s : State) :
    Block.afterAll bs ns s = { s with
      st := .ready
      lutLoaded := bs.any Block.mark || s.lutLoaded
      trace := s.trace ++ Block.eventsAll bs ns
      pinDc := bs.getLast?.map fun b => commandDc b.last
      pinCs := some .l1
      busy := oracleSkip (readsOf ns) s.busy
      spi := oracleSkip (bs.map Block.transfers).sum s.spi } := by
  induction bs generalizing ns s with
  | nil => exact absurd rfl hne
  | cons b bs ih =>
    obtain ⟨n, ns, rfl⟩ := List.exists_cons_of_length_eq_add_one hlen
    cases bs with
    | nil =>
      obtain rfl : ns = [] := List.length_eq_zero_iff.1 (Nat.succ.inj hlen)
      simp [Block.afterAll, Block.after, Block.eventsAll, readsOf]
    | cons b' bs =>
      rw [Block.afterAll, ih (List.cons_ne_nil _ _) (Nat.succ.inj hlen)]
      simp [Block.after, Block.eventsAll, readsOf, oracleSkip_add, Bool.or_left_comm, Bool.or_assoc]

/-! ### INIT.m run to its end (R200 to R205) -/

section Blocks
variable (c : Config) (m : Mode) (loaded : Bool)

theorem initBlocks_ne_nil : initBlocks c m loaded ≠ [] := by
  cases m <;> cases loaded <;> exact List.cons_ne_nil _ _

theorem initBlocks_length : initWaits m loaded = (initBlocks c m loaded).length + 1 := by
  cases m <;> cases loaded <;> rfl

theorem initBlocks_transfers : ((initBlocks c m loaded).map Block.transfers).sum = initTransfers m loaded := by
  cases m <;> cases loaded <;> simp [initBlocks, Block.transfers, Block.all, itemList, listRegs, listLut, listXWindow,
    listYWindow, listXCounter, listYCounter, initTransfers]

theorem initBlocks_mark : ((initBlocks c m loaded).any Block.mark || loaded) = initLut m loaded := by
  cases m <;> cases loaded <;> rfl

theorem initBlocks_lastDc :
    (initBlocks c m loaded).getLast?.map (fun b => commandDc b.last) = some (initLastDc m loaded) := by
  cases m <;> cases loaded <;> rfl

/-- The events of an initialisation are the pulse, its wait and the events of the blocks. -/
theorem evInit_eq_blocks (ns : List Nat) :
    evInit c m loaded ns =
      evPulse ++ evWait 20 (ns.getD 0 0) ++ Block.eventsAll (initBlocks c m loaded) ns.tail := by
  cases m <;> cases loaded <;>
    simp [evInit, initBlocks, Block.eventsAll, Block.all, evCommands, listRegs, listFastFlag, listLut]

end Blocks

/-- The state after the start, the blocks and the mode, answered OK, is the one the listing leaves. -/
theorem afterInit_of_blocks (m : Mode) (n : Nat) (ns : List Nat) (s : State)
    (hlen : ns.length = (initBlocks s.cfg m s.lutLoaded).length) :
    answerWith (.ok .none) (setMode m (Block.afterAll (initBlocks s.cfg m s.lutLoaded) ns (afterStart n s))) =
      afterInit m (n :: ns) s := by
  obtain ⟨-, -, -, hlut, -, -, -, -, -, hspi, -⟩ := tookBus_keeps s
  have hreads : readsOf (n :: ns) = n + 1 + readsOf ns := by simp [readsOf]
  rw [Block.afterAll_eq (initBlocks_ne_nil _ _ _) hlen]
  ext1 <;> simp [afterInit, afterStart, okAnswer, evInit_eq_blocks, initBlocks_transfers, initBlocks_mark,
    initBlocks_lastDc, hlut, hspi, hreads, oracleSkip_add]

theorem plan_init (m : Mode) (s : State) :
    plan (initInstr m) s = planSteps entryVisible true (initActions s.cfg s.lutLoaded m) := by
  cases m <;> rfl

/-- INIT.m with the bus to be had, idle met in every wait and every transfer succeeding. -/
theorem exec_init_ok {m : Mode} {ns : List Nat} {s : State} (hs : s.st ∈ entryVisible) (hbus : busTakes s)
    (hlen : ns.length = initWaits m s.lutLoaded) (hidle : waitsMeetIdle ns s)
    (hsucceed : transfersSucceed (initTransfers m s.lutLoaded) s) :
    exec (initInstr m) s = .next (afterInit m ns s) := by
  rw [initBlocks_length s.cfg] at hlen
  obtain ⟨n, ns, rfl⟩ := List.exists_cons_of_length_eq_add_one hlen
  rw [← initBlocks_transfers s.cfg] at hsucceed
  have hrun := runAll_start_blocks n _ ns s hbus (Nat.succ.inj hlen) hsucceed hidle
  have hsteps : runAll (initActions s.cfg s.lutLoaded m) s =
      .done (setMode m (Block.afterAll (initBlocks s.cfg m s.lutLoaded) ns (afterStart n s))) := by
    rw [initActions_eq_blocks, ← List.append_assoc, runAll_append_done hrun]
    rfl
  rw [exec_eq_runPlan, plan_init]
  exact congrArg _ ((runPlan_done (p := planSteps entryVisible true _) hs rfl rfl hsteps).trans
    (afterInit_of_blocks m n ns s (Nat.succ.inj hlen)))

/-- Settles O34: INIT.Full is three waits and 33 transfers. -/
theorem initFullRunsItsSequence : Obligations.InitFullRunsItsSequence :=
  fun _ _ => exec_init_ok (m := .full)

/-- Settles O35: INIT.Fast is four waits and 36 transfers. -/
theorem initFastRunsItsSequence : Obligations.InitFastRunsItsSequence :=
  fun _ _ => exec_init_ok (m := .fast)

/-- Settles O36: INIT.Partial is two waits and 32 transfers. -/
theorem initPartialRunsItsSequence : Obligations.InitPartialRunsItsSequence :=
  fun _ _ => exec_init_ok (m := .part)

/-- Settles O37: INIT.Grayscale is five waits and 150 transfers before the table is loaded, four and 36 after. -/
theorem initGrayscaleLoadsTheTableOnce : Obligations.InitGrayscaleLoadsTheTableOnce := by
  intro s ns hs hbus hidle
  refine ⟨fun hlut hlen hsucceed => ?_, fun hlut hlen hsucceed => ?_⟩
  · exact exec_init_ok (m := .grayscale) hs hbus (by rw [hlut]; exact hlen) hidle (by rw [hlut]; exact hsucceed)
  · exact exec_init_ok (m := .grayscale) hs hbus (by rw [hlut]; exact hlen) hidle (by rw [hlut]; exact hsucceed)

end Sys2Proof.Machine
end

section
/-! PROOFS. What an INIT that answers OK has done: every step was done, so every transfer succeeded and every wait met idle,
and what it put on the wire and the number of its events follow from its listing (R200, R207). -/

namespace Sys2Proof.Machine

/-! ### Steps that were done -/

theorem done_of_runAll_append {as bs : List Action} {s u : State} (h : runAll (as ++ bs) s = .done u) :
    ∃ t, runAll as s = .done t ∧ runAll bs t = .done u := by
  rcases runAll_append_cases (as := as) (bs := bs) (s := s) with ⟨t, hfirst, hrest⟩ | ⟨e, t, -, hraised⟩
  · exact ⟨t, hfirst, hrest.symm.trans h⟩
  · cases hraised.symm.trans h

/-- A transfer that succeeds before others that do. -/
theorem transfersSucceed_succ {n : Nat} {l : Level} {evs : List Event} {s : State} (h : spiSucceeds s = true)
    (hrest : transfersSucceed n (sent 1 l evs s)) : transfersSucceed (n + 1) s :=
  congrArg₂ List.cons h hrest

/-- Items that were sent: each transfer succeeded. -/
theorem transfersSucceed_of_done {xs : List (Level × Byte)} {s t : State}
    (h : runAll (xs.map itemAction) s = .done t) : transfersSucceed xs.length s := by
  induction xs generalizing s with
  | nil => rfl
  | cons x xs ih =>
    cases hspi : spiSucceeds s with
    | true =>
      rw [List.map_cons, runAll_cons_done (runAction_item_ok x s hspi)] at h
      exact transfersSucceed_succ hspi (ih h)
    | false =>
      obtain ⟨d, hfail⟩ := runAction_item_fail x s hspi
      rw [List.map_cons, runAll_cons_raised hfail] at h
      cases h

theorem commands_succeed_of_done {ws : List WireCommand} {s t : State} (h : runAll (ws.flatMap wireActions) s = .done t) :
    transfersSucceed (itemList ws).length s :=
  transfersSucceed_of_done (by rwa [← commands_eq_items])

/-- A wait that was done met idle: it did not read busy to its bound (R140). -/
theorem waitMeetsIdle_of_done {poll : Nat} {s t : State} (h : runAll [.waitIdle poll] s = .done t) :
    ∃ n, waitMeetsIdle n s := by
  rcases waitMeetsIdle_or_waitTimesOut s with hidle | hbusy
  · exact hidle
  · rw [runAll_cons_raised (a := .waitIdle poll) (waitIdle_timeout poll s hbusy)] at h
    cases h

/-- A block that was done met idle in its wait, and every transfer of it succeeded. -/
theorem Block.after_of_done {b : Block} {s t : State} (h : runAll b.actions s = .done t) : ∃ n, t = b.after n s := by
  obtain ⟨u, hcmds, htail⟩ := done_of_runAll_append h
  obtain ⟨v, hmark, hwait⟩ := done_of_runAll_append htail
  have hsucceed := commands_succeed_of_done hcmds
  obtain ⟨n, hidle⟩ := waitMeetsIdle_of_done hwait
  obtain rfl : u = sent b.transfers (commandDc b.last) (evCommands b.all) s :=
    Run.done.inj (hcmds.symm.trans (runAll_commands_ok b.cmds b.last s hsucceed))
  have hidle : waitMeetsIdle n s := by
    cases hm : b.mark <;> (rw [hm] at hmark; cases hmark; exact hidle)
  exact ⟨n, Run.done.inj (h.symm.trans (runAll_block b n s hsucceed hidle))⟩

theorem Block.afterAll_of_done {bs : List Block} {s t : State} (h : runAll (bs.flatMap Block.actions) s = .done t) :
    ∃ ns : List Nat, ns.length = bs.length ∧ t = Block.afterAll bs ns s := by
  induction bs generalizing s with
  | nil => cases h; exact ⟨[], rfl, rfl⟩
  | cons b bs ih =>
    obtain ⟨u, hfirst, hrest⟩ := done_of_runAll_append h
    obtain ⟨n, rfl⟩ := Block.after_of_done hfirst
    obtain ⟨ns, hlen, rfl⟩ := ih hrest
    exact ⟨n :: ns, congrArg Nat.succ hlen, rfl⟩

/-- A start that was done took the bus and met idle in its wait. -/
theorem afterStart_of_done {s t : State} (h : runAll [.acquire, .resetPulse, .waitIdle 20] s = .done t) :
    ∃ n, t = afterStart n s := by
  obtain ⟨hcfg, -, -, -, -, -, -, -, hreads, -⟩ := tookBus_keeps s
  by_cases hbus : busTakes s
  · have hwait := h
    rw [runAll_cons_done (show runAction .acquire s = _ from acquire_ok s hbus),
      runAll_cons_done (a := .resetPulse) rfl] at hwait
    obtain ⟨n, hidle⟩ := waitMeetsIdle_of_done hwait
    rw [waitMeetsIdle, resetPulse_cfg, resetPulse_busy, hcfg, hreads] at hidle
    exact ⟨n, Run.done.inj (h.symm.trans (runAll_start n s hbus hidle))⟩
  · rw [runAll_cons_raised (show runAction .acquire s = _ from acquire_fail s hbus)] at h
    cases h

/-- The four initialisations, by mode. -/
theorem initInstr_of_row {i : Instr} {m : Mode} (h : (i, m) ∈ [(Instr.initFull, Mode.full), (.initFast, .fast),
    (.initPartial, .part), (.initGrayscale, .grayscale)]) : i = initInstr m := by
  simp only [List.mem_cons, List.not_mem_nil, or_false, Prod.mk.injEq] at h
  rcases h with ⟨rfl, rfl⟩ | ⟨rfl, rfl⟩ | ⟨rfl, rfl⟩ | ⟨rfl, rfl⟩ <;> rfl

/-- An INIT that answers OK leaves the state its listing leaves, for some number of busy samples in each of its waits. -/
theorem afterInit_of_ok {m : Mode} {s t : State} (h : exec (initInstr m) s = .next t) (hok : t.answer = okAnswer) :
    ∃ ns : List Nat, ns.length = initWaits m s.lutLoaded ∧ t = afterInit m ns s := by
  obtain ⟨-, u, hrun, rfl⟩ := doneOk_of_exec h hok
  rw [plan_init, planSteps, initActions_eq_blocks] at hrun
  obtain ⟨v, hstart, hrest⟩ := done_of_runAll_append hrun
  obtain ⟨n, rfl⟩ := afterStart_of_done hstart
  obtain ⟨w, hblocks, hmode⟩ := done_of_runAll_append hrest
  obtain ⟨ns, hlen, rfl⟩ := Block.afterAll_of_done hblocks
  cases hmode
  exact ⟨n :: ns, (congrArg Nat.succ hlen).trans (initBlocks_length ..).symm, afterInit_of_blocks m n ns s hlen⟩

/-! ### The events of an INIT on the wire (R31) -/

/-- The event of taking the bus, where it is not held. -/
def evAcquire (held : Bool) : List Event := if held then [] else [.modInit 0]

theorem afterInit_trace (m : Mode) (ns : List Nat) (s : State) :
    (afterInit m ns s).trace = s.trace ++ (evAcquire s.busHeld ++ evInit s.cfg m s.lutLoaded ns) := by
  rw [afterInit, tookBus, evAcquire, ← List.append_assoc]
  cases s.busHeld <;> simp

theorem wireFrom_evCommand (l : Option Level) (w : WireCommand) : wireFrom l (evCommand w) = wireItems w := by
  have hdata (bs : List Byte) (l : Option Level) :
      wireFrom l (bs.flatMap fun b => evTransfer .l1 [b]) = bs.map .d := by
    induction bs generalizing l with
    | nil => rfl
    | cons b bs ih => exact congrArg (WireItem.d b :: ·) (ih _)
  exact congrArg (WireItem.c w.op :: ·) (hdata w.payload _)

theorem wireFrom_evCommands (l : Option Level) (ws : List WireCommand) :
    wireFrom l (evCommands ws) = ws.flatMap wireItems := by
  induction ws generalizing l with
  | nil => rfl
  | cons w ws ih => rw [evCommands, List.flatMap_cons, wireFrom_append, wireFrom_evCommand]; exact congrArg _ (ih _)

/-- Whatever its waits met, an INIT puts its listing on the wire. -/
theorem wireFrom_evInit (c : Config) (m : Mode) (loaded : Bool) (ns : List Nat) (l : Option Level) :
    wireFrom l (evInit c m loaded ns) = (listInit c m loaded).flatMap wireItems := by
  have hpulse (l : Option Level) : wireFrom l evPulse = [] := rfl
  have hwait (n : Nat) (l : Option Level) : wireFrom l (evWait 20 n) = [] :=
    wireFrom_of_no_xfer (pollsWithin_evWait 20 n).no_xfer l
  cases m <;> cases loaded <;>
    simp [evInit, listInit, wireFrom_append, wireFrom_evCommand, wireFrom_evCommands, hpulse, hwait]

/-- Taking the bus adds nothing to the wire. -/
theorem wire_initEvents (c : Config) (m : Mode) (loaded held : Bool) (ns : List Nat) :
    wire (evAcquire held ++ evInit c m loaded ns) = (listInit c m loaded).flatMap wireItems := by
  cases held <;> exact wireFrom_evInit c m loaded ns none

/-- Settles O38: an INIT that answers OK leaves the state of its listing, whose events carry the listing's items. -/
theorem initPutsTheListingOnTheWire : Obligations.InitPutsTheListingOnTheWire := by
  intro s t i m hrow h hok
  obtain rfl := initInstr_of_row hrow
  obtain ⟨ns, -, rfl⟩ := afterInit_of_ok h hok
  exact ⟨rfl, rfl, _, afterInit_trace m ns s, wire_initEvents ..⟩

/-! ### The counts of an INIT (R207) -/

theorem commandItems_length (ws : List WireCommand) :
    ((ws.flatMap wireItems).filter isCommandItem).length = ws.length := by
  have hitems (w : WireCommand) : (wireItems w).countP isCommandItem = 1 := by
    simp [wireItems, isCommandItem, List.countP_cons, List.countP_map, Function.comp_def]
  simp [← List.countP_eq_length_filter, List.countP_flatMap, Function.comp_def, hitems]

theorem dataItems_length (ws : List WireCommand) :
    ((ws.flatMap wireItems).filter fun x => !isCommandItem x).length = (ws.map fun w => w.payload.length).sum := by
  have hitems (w : WireCommand) : (wireItems w).countP (fun x => !isCommandItem x) = w.payload.length := by
    simp [wireItems, isCommandItem, List.countP_map, Function.comp_def]
  simp [← List.countP_eq_length_filter, List.countP_flatMap, Function.comp_def, hitems]

theorem listInit_length (c : Config) (m : Mode) (loaded : Bool) : (listInit c m loaded).length = initCommands m loaded := by
  cases m <;> cases loaded <;> rfl

theorem listInit_dataBytes (c : Config) (m : Mode) (loaded : Bool) :
    ((listInit c m loaded).map fun w => w.payload.length).sum = initDataBytes m loaded := by
  cases m <;> cases loaded <;> simp [listInit, listRegs, listFastFlag, listLut, listXWindow, listYWindow, listXCounter,
    listYCounter, initDataBytes]

section Count
variable {p : Event → Bool} {x : Nat}

/-- A predicate that holds of `x` events of every transfer. -/
theorem countP_evCommands (hx : ∀ l bs, (evTransfer l bs).countP p = x) (ws : List WireCommand) :
    (evCommands ws).countP p = x * (itemList ws).length := by
  rw [← evItems_itemList, evItems, List.countP_flatMap]
  simp [Function.comp_def, hx, Nat.mul_comm]

theorem countP_evWait (n : Nat) : (evWait 20 n).countP p =
    [Event.readBusy .l1, .delay 20].countP p * n + [Event.readBusy .l0, .delay 20].countP p := by
  simp [evWait, evBusy, List.countP_append, List.countP_flatten, Nat.mul_comm]

theorem countP_eventsAll (hx : ∀ l bs, (evTransfer l bs).countP p = x) {bs : List Block} {ns : List Nat}
    (hlen : ns.length = bs.length) : (Block.eventsAll bs ns).countP p =
      [Event.readBusy .l1, .delay 20].countP p * ns.sum + [Event.readBusy .l0, .delay 20].countP p * bs.length +
        x * (bs.map Block.transfers).sum := by
  induction bs generalizing ns with
  | nil => obtain rfl := List.length_eq_zero_iff.1 hlen; rfl
  | cons b bs ih =>
    obtain ⟨n, ns, rfl⟩ := List.exists_cons_of_length_eq_add_one hlen
    rw [Block.eventsAll, List.countP_append, List.countP_append, countP_evCommands hx, countP_evWait, List.getD_cons_zero,
      List.tail_cons, ih (Nat.succ.inj hlen), List.length_cons, List.map_cons, List.sum_cons, List.sum_cons,
      Block.transfers]
    ring

/-- How many events of an INIT satisfy a predicate that holds of `x` events of every transfer: those of the acquisition and
the pulse, of the busy samples, of the idle sample of each wait, and of the transfers. -/
theorem countP_initEvents (hx : ∀ l bs, (evTransfer l bs).countP p = x) {c : Config} {m : Mode} {loaded held : Bool}
    {ns : List Nat} (hlen : ns.length = initWaits m loaded) :
    (evAcquire held ++ evInit c m loaded ns).countP p = (evAcquire held).countP p + evPulse.countP p +
      [Event.readBusy .l1, .delay 20].countP p * ns.sum +
      [Event.readBusy .l0, .delay 20].countP p * initWaits m loaded + x * initTransfers m loaded := by
  rw [initBlocks_length c] at hlen
  obtain ⟨n, ns, rfl⟩ := List.exists_cons_of_length_eq_add_one hlen
  rw [evInit_eq_blocks, List.countP_append, List.countP_append, List.countP_append, countP_evWait, List.getD_cons_zero,
    List.tail_cons, countP_eventsAll hx (Nat.succ.inj hlen), initBlocks_transfers, initBlocks_length c, List.sum_cons]
  ring

end Count

/-- Settles O39: every count is one over the pulse, the samples of the waits and the transfers, and a trace without a busy
sample has none in any wait. -/
theorem initCounts : Obligations.InitCounts := by
  intro s t i m more hrow h hok htrace
  obtain rfl := initInstr_of_row hrow
  obtain ⟨ns, hlen, rfl⟩ := afterInit_of_ok h hok
  obtain rfl := List.append_cancel_left ((afterInit_trace m ns s).symm.trans htrace)
  rw [wire_initEvents, commandItems_length, dataItems_length, listInit_length, listInit_dataBytes]
  refine ⟨rfl, rfl, ?_, ?_, ?_, fun hidle => ?_⟩
  · rw [← List.countP_eq_length_filter, countP_initEvents (x := 1) (fun _ _ => rfl) hlen]
    cases s.busHeld <;> simp [evAcquire, evPulse, Event.isXfer]
  · rw [← List.countP_eq_length_filter, countP_initEvents (x := 0) (fun _ _ => by simp [evTransfer]) hlen]
    cases s.busHeld <;> simp [evAcquire, evPulse]
  · rw [← List.countP_eq_length_filter, countP_initEvents (x := 0) (fun _ _ => rfl) hlen]
    cases s.busHeld <;> simp [evAcquire, evPulse]
  · have hbusy : ns.sum = 0 := by
      have hnone := List.countP_eq_zero.2 fun e he (h : decide (e = Event.readBusy .l1) = true) =>
        hidle (of_decide_eq_true h ▸ he)
      rw [countP_initEvents (x := 0) (fun _ _ => rfl) hlen] at hnone
      simpa [evAcquire, evPulse] using hnone
    rw [← List.countP_true, countP_initEvents (x := 4) (fun _ _ => rfl) hlen, hbusy]
    cases s.busHeld <;> simp [evAcquire, evPulse]

end Sys2Proof.Machine
end


section
/-! PROOFS. The change detector and the preconditions of REFRESH: what is answered without a bus event (R222, R226, R227). -/

namespace Sys2Proof.Machine

/-- Settles O43: FP_COMPUTE has no precondition and no steps, and its value is the digest. -/
theorem fpComputeAnswersTheDigest : Obligations.FpComputeAnswersTheDigest := by
  intro s img
  rw [exec_eq_runPlan]
  exact congrArg _ (runPlan_pure_ok (.digest (Config.fingerprint img)) s)

/-- Settles O44: SHOULD_UPDATE has no steps, and its value is the decision of R227. -/
theorem shouldUpdateCompares : Obligations.ShouldUpdateCompares := by
  intro s fp force
  have hbit : shouldUpdate s fp force = decide (force = true ∨ s.fpValid = false ∨ fp ≠ s.fp) := by
    rw [Bool.eq_iff_iff, shouldUpdate_iff, decide_eq_true_iff, ne_comm]
  rw [exec_eq_runPlan, ← hbit]
  exact congrArg _ (runPlan_pure_ok (.bit (shouldUpdate s fp force)) s)

/-- A host operation whose operands are not accepted is refused, in whatever state (R255). -/
theorem exec_refused_of_operands {i : Instr} (hi : isHostOp i = true) {s : State} (h : ¬ operandsAccepted i s) :
    exec i s = .next { s with answer := some .refused } := by
  rw [← plan_accepted_iff hi, Bool.not_eq_true] at h
  rw [exec_eq_runPlan]
  exact congrArg _ (hostOp_refused (.inr h))

/-- Settles O41: each of the three breaks the precondition of its row. -/
theorem refreshRefusesWrongOperands : Obligations.RefreshRefusesWrongOperands := by
  refine fun s buf pp => ⟨fun hlen => ⟨?_, ?_⟩, fun hbad => ?_⟩
  · exact exec_refused_of_operands (i := .refreshFull buf pp) rfl hlen
  · exact exec_refused_of_operands (i := .refreshFast buf pp) rfl hlen
  · refine exec_refused_of_operands (i := .refreshGrayscale buf pp) rfl fun ⟨hlen, hpp⟩ => ?_
    rcases hbad with hne | htrue
    · exact hne hlen
    · exact Bool.false_ne_true (hpp.symm.trans htrue)

end Sys2Proof.Machine
end

section
/-! PROOFS. REFRESH run to its end: the initialisation of the chosen mode, its frames, its trigger and the count, with ENV
co-operating (R220, R221, R223, R224). -/

namespace Sys2Proof.Machine

/-! ### ENV's answers over the parts of a refresh (R32) -/

theorem samples_length (ns : List Nat) : (samples ns).length = readsOf ns := by
  simp [samples, readsOf, List.length_flatMap]

/-- The waits of two parts are those of the first, and those of the second from any state in which the first have been
made. -/
theorem waitsMeetIdle_append {ms ns : List Nat} {s : State} (h : waitsMeetIdle (ms ++ ns) s) :
    waitsMeetIdle ms s ∧ ∀ t : State, t.cfg = s.cfg → t.busy = oracleSkip (readsOf ms) s.busy → waitsMeetIdle ns t := by
  obtain ⟨hbound, hanswers⟩ := h
  have hreads : readsOf (ms ++ ns) = readsOf ms + readsOf ns := by simp [readsOf]
  have hsamples : samples (ms ++ ns) = samples ms ++ samples ns := List.flatMap_append
  rw [hreads, hsamples] at hanswers
  obtain ⟨hfirst, hrest⟩ := oracleAnswers_split (samples_length ms) hanswers
  refine ⟨⟨fun n hn => hbound n (List.mem_append_left _ hn), hfirst⟩, fun t hcfg hbusy => ⟨fun n hn => ?_, ?_⟩⟩
  · rw [hcfg]; exact hbound n (List.mem_append_right _ hn)
  · rw [hbusy]; exact hrest

/-- Blocks make their own waits and no further one. -/
theorem Block.eventsAll_append {bs : List Block} {ns : List Nat} (hlen : ns.length = bs.length) (more : List Nat) :
    Block.eventsAll bs (ns ++ more) = Block.eventsAll bs ns := by
  induction bs generalizing ns with
  | nil => simp [Block.eventsAll]
  | cons b bs ih =>
    obtain ⟨n, ns, rfl⟩ := List.exists_cons_of_length_eq_add_one hlen
    exact congrArg (evCommands b.all ++ evWait 20 n ++ ·) (ih (Nat.succ.inj hlen))

/-- An initialisation makes its own waits and no further one. -/
theorem evInit_append (c : Config) (m : Mode) (loaded : Bool) {ns : List Nat} (hlen : ns.length = initWaits m loaded)
    (more : List Nat) : evInit c m loaded (ns ++ more) = evInit c m loaded ns := by
  rw [initBlocks_length c] at hlen
  obtain ⟨n, ns, rfl⟩ := List.exists_cons_of_length_eq_add_one hlen
  simp [evInit_eq_blocks, Block.eventsAll_append (Nat.succ.inj hlen)]

/-! ### The parts of a refresh -/

/-- The frames of a mode, sent whole (R223). -/
theorem runAll_frames_ok (c : Config) (m : Mode) (buf : List Byte) {s : State}
    (h : transfersSucceed (frameTransferCount m) s) :
    runAll (frameTransfers c m buf) s = .done (sent (frameTransferCount m) .l1 (evFrames c m buf) s) := by
  cases m with
  | full => exact runAll_frame_ok (cmdRamPlane1 buf) h
  | fast => exact runAll_frame_ok (cmdRamPlane1 buf) h
  | part => exact runAll_frame_ok (cmdRamPlane1 buf) h
  | grayscale =>
    obtain ⟨hfirst, hsecond⟩ := transfersSucceed_add (m := 2) (n := 2) h
    rw [frameTransfers, runAll_append_done (runAll_frame_ok _ hfirst), runAll_frame_ok _ (hsecond _ _), sent_sent]
    rfl

/-- The state after a trigger whose wait meets idle after `n` busy samples. -/
def afterTrigger (m : Mode) (n : Nat) (s : State) : State :=
  { triggered m s with
    st := .ready
    trace := (triggered m s).trace ++ evWait 20 n
    busy := oracleSkip (n + 1) s.busy }

/-- A trigger whose transfers succeed and whose wait meets idle (R186). -/
theorem runAll_trigger_ok {s : State} {n : Nat} (m : Mode) (h : transfersSucceed 3 s) (hidle : waitMeetsIdle n s) :
    runAll (triggerActions m) s = .done (afterTrigger m n s) :=
  have hwait : waitMeetsIdle n (triggered m s) := hidle
  (runAll_trigger_sent m h).trans (runAll_cons_done (runAction_waitIdle_ok hwait))

/-- The parts of a refresh one after the other leave the state of its listing. -/
theorem afterRefresh_of_parts (m : Mode) (buf : List Byte) {ns : List Nat} (n : Nat) (s : State)
    (hlen : ns.length = initWaits m s.lutLoaded) :
    answerWith (.ok .none) (setOrchMode m (updateCount m (afterTrigger m n
      (sent (frameTransferCount m) .l1 (evFrames s.cfg m buf) (afterInit m ns s))))) =
      afterRefresh m buf (ns ++ [n]) s := by
  obtain ⟨-, -, -, -, hprc, -⟩ := tookBus_keeps s
  have hreads : readsOf (ns ++ [n]) = readsOf ns + (n + 1) := by simp [readsOf]
  ext1 <;> simp [afterRefresh, afterTrigger, triggered, sent, afterInit, okAnswer, evInit_append _ _ _ hlen, hreads,
    hprc, ← hlen, refreshTransfers, oracleSkip_add]

/-- The steps of a refresh in mode `m` are done, in the state of its listing. -/
theorem doneOk_refresh {m : Mode} {ns : List Nat} {s : State} (buf : List Byte) (hs : s.st ∈ entryVisible)
    (henv : refreshEnv m ns s) :
    DoneOk (refreshActions s.cfg s.lutLoaded m buf) s (afterRefresh m buf ns s) := by
  obtain ⟨hbus, hlen, hidle, hsucceed⟩ := henv
  obtain ⟨ms, n, rfl⟩ := (List.eq_nil_or_concat' ns).resolve_left fun hnil => by simp [hnil] at hlen
  rw [List.length_append] at hlen
  replace hlen : ms.length = initWaits m s.lutLoaded := Nat.succ.inj hlen
  obtain ⟨hinitIdle, hlastIdle⟩ := waitsMeetIdle_append hidle
  obtain ⟨hfront, htrigger⟩ := transfersSucceed_add hsucceed
  obtain ⟨hinit, hframes⟩ := transfersSucceed_add hfront
  obtain ⟨hcfg, -⟩ := tookBus_keeps s
  have hinitDone : DoneOk (initActions s.cfg s.lutLoaded m) s (afterInit m ms s) := by
    have hdone := (doneOk_of_exec (exec_init_ok hs hbus hlen hinitIdle hinit) rfl).2
    rwa [plan_init] at hdone
  have hframesDone := runAll_frames_ok s.cfg m buf (s := afterInit m ms s) (hframes .l0 [])
  have hsent : transfersSucceed 3 (sent (frameTransferCount m) .l1 (evFrames s.cfg m buf) (afterInit m ms s)) := by
    simpa [transfersSucceed, sent, afterInit, oracleSkip_add] using htrigger .l0 []
  have htriggerDone := runAll_trigger_ok m hsent (waitsMeetIdle_first (hlastIdle _ hcfg rfl))
  rw [refreshActions, List.append_assoc, List.append_assoc]
  exact hinitDone.append ⟨_, (runAll_append_done hframesDone).trans (runAll_append_done htriggerDone),
    (afterRefresh_of_parts m buf n s hlen).symm⟩

/-- REFRESH.m with its operands accepted and ENV co-operating in the mode it chooses. -/
theorem runPlan_refresh_ok {m : Mode} {ns : List Nat} {buf : List Byte} {pp : Bool} {s : State}
    (hs : s.st ∈ entryVisible) (hacc : refreshAccepted s.cfg m buf pp = true) (henv : refreshEnv (actualMode m pp s) ns s) :
    runPlan (planRefresh m buf pp s) s = afterRefresh (actualMode m pp s) buf ns s := by
  obtain ⟨u, hrun, hend⟩ := doneOk_refresh buf hs henv
  rw [hend]
  rw [actualMode_eq_selectMode] at hrun
  exact runPlan_done (p := planRefresh m buf pp s) hs hacc rfl hrun

/-- The three refreshes, by content type. -/
theorem plan_refresh {i : Instr} {m : Mode} {buf : List Byte} {pp : Bool}
    (h : (i, m) ∈ [(Instr.refreshFull buf pp, Mode.full), (.refreshFast buf pp, .fast),
      (.refreshGrayscale buf pp, .grayscale)]) (s : State) :
    isHostOp i = true ∧ plan i s = planRefresh m buf pp s := by
  simp only [List.mem_cons, List.not_mem_nil, or_false, Prod.mk.injEq] at h
  rcases h with ⟨rfl, rfl⟩ | ⟨rfl, rfl⟩ | ⟨rfl, rfl⟩ <;> exact ⟨rfl, rfl⟩

/-- Settles O40: the initialisation of the chosen mode, the frames, the trigger and the count, one after the other. -/
theorem refreshRunsTheChosenMode : Obligations.RefreshRunsTheChosenMode := by
  intro s buf pp ns i m hrow hs haccepted henv
  obtain ⟨hi, hplan⟩ := plan_refresh hrow s
  have hacc : (plan i s).accepted = true := (plan_accepted_iff hi s).2 haccepted
  rw [hplan] at hacc
  rw [exec_eq_runPlan, hplan, runPlan_refresh_ok hs hacc henv]

end Sys2Proof.Machine
end

section
/-! PROOFS. UPDATE: the shape, the decision and the refresh, and what becomes of the stored digest (R228 to R231). -/

namespace Sys2Proof.Machine

/-- A plan that finds its error before its first step answers it, and nothing else has changed. -/
theorem runPlan_early {p : Plan} {s : State} {e : Raise} (hs : s.st ∈ p.entry) (hacc : p.accepted = true)
    (hearly : p.early = some e) : runPlan p s = { s with answer := some (.error e) } := by
  have hbody : p.body s = .raised e s := by rw [Plan.body, hearly]
  rw [runPlan, hacc, hostOp_raised hs hbody]
  rfl

theorem shapeError_of_not_fits {c : Config} {img : Raster} (h : ¬ shapeFits c img) :
    shapeError c img = some (.unsupportedImageDimensions img.iw img.ih) := by
  rw [shapeError, orientation_none_iff.2 h]

theorem shapeError_of_orientation {c : Config} {img : Raster} {o : Orientation} (h : orientation c img = some o) :
    shapeError c img = none := by
  rw [shapeError, h]

/-- What an encoder answers, REFRESH accepts, where UPDATE accepts the preference (R222, R229). -/
theorem refreshAccepted_encodeFor (c : Config) (o : Orientation) (img : Raster) {m : Mode} {pp : Bool}
    (hacc : updateAccepted m pp = true) :
    refreshAccepted c m (encodeFor m c o img) pp = true := by
  rw [updateAccepted_iff] at hacc
  cases m with
  | full => simp [refreshAccepted, encodeFor]
  | fast => simp [refreshAccepted, encodeFor]
  | part => simp [refreshAccepted, encodeFor]
  | grayscale => simp [refreshAccepted, encodeFor, hacc rfl]

section Update
variable {m : Mode} {img : Raster} {pp force : Bool} {s : State}

/-- An image that is stored and not forced is skipped (R227, R229). -/
theorem runPlan_update_skipped (hs : s.st ∈ entryVisible) (hacc : updateAccepted m pp = true)
    (hshape : shapeError s.cfg img = none) (hskip : shouldUpdate s (Config.fingerprint img) force = false) :
    runPlan (planUpdate m img pp force s) s = { s with answer := some (.ok (.transmitted false)) } := by
  have hrun : runAll (planUpdate m img pp force s).actions s = .done s := by
    simp [planUpdate, hskip]
  rw [runPlan_done (p := planUpdate m img pp force s) hs hacc hshape hrun]
  simp only [planUpdate, hskip]
  rfl

/-- An image to be transmitted, ENV co-operating, is refreshed and stored (R229, R230). -/
theorem runPlan_update_transmitted {o : Orientation} {ns : List Nat} (hs : s.st ∈ entryVisible)
    (hacc : updateAccepted m pp = true) (ho : orientation s.cfg img = some o)
    (htransmit : shouldUpdate s (Config.fingerprint img) force = true) (henv : refreshEnv (actualMode m pp s) ns s) :
    runPlan (planUpdate m img pp force s) s =
      { afterRefresh (actualMode m pp s) (encodeFor m s.cfg o img) ns s with
        fp := Config.fingerprint img
        fpValid := true
        answer := some (.ok (.transmitted true)) } := by
  obtain ⟨hshape, hbuf⟩ := encoded_of_answer (encodeAnswer_of_orientation ho (encodeFor m))
  have hrefresh := runPlan_refresh_ok hs (refreshAccepted_encodeFor s.cfg o img hacc) henv
  rw [(update_of_refresh (pp := pp) htransmit hshape hbuf).1 (by rw [hrefresh]; rfl), hrefresh]

end Update

/-- The three updates, by content type, with the encoder of each. -/
theorem plan_update {i enc : Instr} {m : Mode} {img : Raster} {pp force : Bool}
    (h : (i, enc, m) ∈ [(Instr.updateFull img pp force, Instr.encMono img, Mode.full),
      (.updateFast img pp force, .encMono img, .fast), (.updateGrayscale img pp force, .encGray img, .grayscale)])
    (s : State) : plan i s = planUpdate m img pp force s ∧
      exec enc s = .next { s with answer := some (encodeAnswer s.cfg img (encodeFor m)) } := by
  simp only [List.mem_cons, List.not_mem_nil, or_false, Prod.mk.injEq] at h
  rcases h with ⟨rfl, rfl, rfl⟩ | ⟨rfl, rfl, rfl⟩ | ⟨rfl, rfl, rfl⟩ <;> exact ⟨rfl, rfl⟩

/-- Settles O45: the wrapper refuses, the shape is tested first, a stored image takes no steps, and any other is refreshed
and stored. -/
theorem updateRefreshesAndStores : Obligations.UpdateRefreshesAndStores := by
  intro s img pp force i enc m hrow hs
  obtain ⟨hplan, henc⟩ := plan_update hrow s
  have haccepted : updateAccepted m pp = true ↔ ¬ (m = .grayscale ∧ pp = true) := by
    rw [updateAccepted_iff, not_and, Bool.not_eq_true]
  rw [exec_eq_runPlan, hplan, ← haccepted, ← shouldUpdate_iff]
  refine ⟨fun hbad => ?_, fun hacc hshape => ?_, fun hacc hshape hforce hvalid hfp => ?_,
    fun hacc hshape htransmit ns henv => ?_⟩
  · have hrefused : updateAccepted m pp = false := Bool.eq_false_iff.2 fun h => haccepted.1 h hbad
    exact congrArg _ (hostOp_refused (.inr hrefused))
  · exact congrArg _ (runPlan_early hs hacc (shapeError_of_not_fits hshape))
  · obtain ⟨o, ho⟩ := exists_orientation hshape
    refine congrArg _ (runPlan_update_skipped hs hacc (shapeError_of_orientation ho) ?_)
    simp [shouldUpdate, hforce, hvalid, hfp]
  · obtain ⟨o, ho⟩ := exists_orientation hshape
    refine ⟨encodeFor m s.cfg o img, ?_, congrArg _ (runPlan_update_transmitted hs hacc ho htransmit henv)⟩
    rw [henc, encodeAnswer_of_orientation ho]

/-! ### The second UPDATE of one image (R231 (a)) -/

/-- The updates of an image, whatever the content type. -/
theorem exists_plan_update {i : Instr} {img : Raster} {pp force : Bool}
    (h : i ∈ [Instr.updateFull img pp force, .updateFast img pp force, .updateGrayscale img pp force]) :
    isHostOp i = true ∧ ∃ m, ∀ s, plan i s = planUpdate m img pp force s := by
  simp only [List.mem_cons, List.not_mem_nil, or_false] at h
  rcases h with rfl | rfl | rfl
  · exact ⟨rfl, .full, fun _ => rfl⟩
  · exact ⟨rfl, .fast, fun _ => rfl⟩
  · exact ⟨rfl, .grayscale, fun _ => rfl⟩

/-- An UPDATE that transmitted an image found its shape good, ended in Ready and stored its digest. -/
theorem stored_of_transmitted {m : Mode} {img : Raster} {pp force : Bool} {s t : State}
    (h : runPlan (planUpdate m img pp force s) s = t) (hans : t.answer = some (.ok (.transmitted true))) :
    shapeError s.cfg img = none ∧ t.st = .ready ∧ t.fp = Config.fingerprint img ∧ t.fpValid = true := by
  subst h
  rcases runPlan_cases (planUpdate m img pp force s) s with
    ⟨-, h⟩ | ⟨-, -, hearly, u, hrun, h⟩ | ⟨-, -, -, e, u, -, h⟩ | ⟨-, -, e, -, h⟩
  · simp [h] at hans
  · have hvalue : (planUpdate m img pp force s).value = .transmitted true := by simpa [h] using hans
    have hst : u.st = .ready := by
      rw [runAll_done_st hrun, stAfter_planUpdate, hvalue]
      rfl
    rw [planUpdate_actions (Value.transmitted.inj hvalue) rfl] at hrun
    obtain ⟨v, -, hstore⟩ := done_of_runAll_append hrun
    cases hstore
    rw [h]
    exact ⟨hearly, hst, rfl, rfl⟩
  · simp [h] at hans
  · simp [h] at hans

/-- Settles O47: the first UPDATE has stored the digest that the second compares with. -/
theorem secondUpdateIsSkipped : Obligations.SecondUpdateIsSkipped := by
  intro s t img pp pp' force i j hi hj haccepted hexec hans
  obtain ⟨hcfg, -⟩ := traceOnlyGrows i s t hexec
  obtain ⟨-, m, hplan⟩ := exists_plan_update hi
  obtain ⟨hhost, m', hplan'⟩ := exists_plan_update hj
  rw [exec_eq_runPlan, hplan] at hexec
  obtain ⟨hshape, hst, hfp, hvalid⟩ := stored_of_transmitted (Host.Outcome.next.inj hexec) hans
  have hacc := (plan_accepted_iff hhost t).2 haccepted
  rw [hplan'] at hacc
  rw [exec_eq_runPlan, hplan']
  refine congrArg _ (runPlan_update_skipped (by simp [hst, entryVisible]) hacc (hcfg ▸ hshape) ?_)
  simp [shouldUpdate, hfp, hvalid]

/-! ### An UPDATE that failed (R225, R231 (c)) -/

/-- Store is the only step that writes the stored digest (R228). -/
theorem runAction_record {a : Action} (h : ∀ d, a ≠ .store d) (s : State) :
    (runState (runAction a s)).fp = s.fp ∧ (runState (runAction a s)).fpValid = s.fpValid := by
  cases hcommon : a.common with
  | true => obtain ⟨-, -, -, -, -, hrecord⟩ := common_fields hcommon s; exact hrecord
  | false =>
    cases a with
    | store d => exact absurd rfl (h d)
    | acquire => obtain ⟨-, -, -, -, -, hrecord⟩ := acquire_fields s; exact hrecord
    | countRefresh m => exact ⟨updateCount_fp m s, updateCount_fpValid m s⟩
    | markLutLoaded => exact ⟨rfl, rfl⟩
    | setMode m => exact ⟨rfl, rfl⟩
    | endSession => exact ⟨rfl, rfl⟩
    | _ => cases hcommon

/-- No step of a refresh is a Store, so a refresh that raises has left the stored digest (R225). -/
theorem record_of_refresh_raised {c : Config} {loaded : Bool} {m : Mode} {buf : List Byte} {s t : State} {e : Raise}
    (h : runAll (refreshActions c loaded m buf) s = .raised e t) : t.fp = s.fp ∧ t.fpValid = s.fpValid := by
  have hnoStore : ∀ a ∈ refreshActions c loaded m buf, ∀ d, a ≠ .store d := by
    rintro a ha d rfl
    simpa [Action.common] using mem_refreshActions ha
  have hkept := runAll_keeps (fun u => u.fp = s.fp ∧ u.fpValid = s.fpValid) (fun a ha u ⟨hfp, hvalid⟩ =>
    have ⟨hfp', hvalid'⟩ := runAction_record (hnoStore a ha) u
    ⟨hfp'.trans hfp, hvalid'.trans hvalid⟩) (s := s) ⟨rfl, rfl⟩
  rwa [h] at hkept

/-- The steps of an UPDATE raise only in its refresh, before the store. -/
theorem record_of_raised {m : Mode} {img : Raster} {pp force : Bool} {s t : State} {e : Raise}
    (h : runAll (planUpdate m img pp force s).actions s = .raised e t) : t.fp = s.fp ∧ t.fpValid = s.fpValid := by
  cases htransmit : shouldUpdate s (Config.fingerprint img) force with
  | false => simp [planUpdate, htransmit] at h
  | true =>
    rw [planUpdate_actions htransmit rfl] at h
    rcases runAll_append_cases (as := (planRefresh m (encodedBuffer s.cfg img (encodeFor m)) pp s).actions)
      (bs := [.store (Config.fingerprint img)]) (s := s) with ⟨u, -, hdone⟩ | ⟨e', u, hraised, happ⟩
    · cases hdone.symm.trans h
    · cases happ.symm.trans h
      exact record_of_refresh_raised hraised

theorem runPlan_update_error {m : Mode} {img : Raster} {pp force : Bool} {s t : State} {e : Raise}
    (h : runPlan (planUpdate m img pp force s) s = t) (hans : t.answer = some (.error e)) :
    t.fp = s.fp ∧ t.fpValid = s.fpValid := by
  subst h
  rcases runPlan_cases (planUpdate m img pp force s) s with
    ⟨-, h⟩ | ⟨-, -, -, u, -, h⟩ | ⟨-, -, -, e', u, hrun, h⟩ | ⟨-, -, e', -, h⟩
  · rw [h]; exact ⟨rfl, rfl⟩
  · simp [h] at hans
  · rw [h]; exact record_of_raised (t := u) hrun
  · rw [h]; exact ⟨rfl, rfl⟩

/-- Settles O49: the store comes after every step that can raise, so the comparison is made with the old digest. -/
theorem failedUpdateIsRetried : Obligations.FailedUpdateIsRetried := by
  intro s t img pp force e i hi hexec hans
  obtain ⟨-, m, hplan⟩ := exists_plan_update hi
  rw [exec_eq_runPlan, hplan] at hexec
  obtain ⟨hfp, hvalid⟩ := runPlan_update_error (Host.Outcome.next.inj hexec) hans
  refine ⟨hfp, hvalid, fun hchanged => ?_⟩
  have hbit : decide (false = true ∨ t.fpValid = false ∨ Config.fingerprint img ≠ t.fp) = true := by
    rw [hfp, hvalid, decide_eq_true_iff, ne_comm]
    exact .inr hchanged
  rw [shouldUpdateCompares, hbit]

end Sys2Proof.Machine
end

section
/-! PROOFS. The bound on partial refreshes: what a REFRESH that answers OK leaves of the count and the modes, and the chain
of them (R221, R224, R231 (b)). -/

namespace Sys2Proof.Machine

/-- An initialisation that is done has written its mode as its last act (R200). -/
theorem mode_of_init_done {c : Config} {loaded : Bool} {m : Mode} {s t : State}
    (h : runAll (initActions c loaded m) s = .done t) : t.mode = some m := by
  rw [initActions_eq_blocks, ← List.append_assoc] at h
  obtain ⟨u, -, hmode⟩ := done_of_runAll_append h
  cases hmode
  rfl

theorem runAll_common_mode {as : List Action} (h : ∀ a ∈ as, a.common = true) (s : State) :
    (runState (runAll as s)).mode = s.mode :=
  runAll_keeps (fun u => u.mode = s.mode) (fun a ha u hu => (common_fields (h a ha) u).1.trans hu) rfl

/-- The steps of a refresh that are done have run in its mode and counted it once (R220, R224). -/
theorem registers_of_refresh_done {c : Config} {loaded : Bool} {m : Mode} {buf : List Byte} {s t : State}
    (h : runAll (refreshActions c loaded m buf) s = .done t) :
    t.mode = some m ∧ t.orchMode = some m ∧ t.prc = countAfter m s.prc := by
  obtain ⟨u, hfront, hcount⟩ := done_of_runAll_append h
  cases hcount
  have hprc := runAll_prc (as := initActions c loaded m ++ frameTransfers c m buf ++ triggerActions m)
    (fun _ ha k => ne_countRefresh_of_mem ha k) s
  rw [hfront] at hprc
  rw [List.append_assoc] at hfront
  obtain ⟨v, hinit, hrest⟩ := done_of_runAll_append hfront
  have hmode := runAll_common_mode (as := frameTransfers c m buf ++ triggerActions m)
    (fun a ha => (List.mem_append.1 ha).elim mem_frameTransfers_common mem_triggerActions_common) v
  rw [hrest] at hmode
  exact ⟨(updateCount_mode m u).trans (hmode.trans (mode_of_init_done hinit)), rfl,
    (updateCount_prc m u).trans (congrArg (countAfter m) hprc)⟩

/-- What a REFRESH.Full with partial preference leaves when it answers OK, with the mode it has chosen. -/
theorem refreshFull_registers {buf : List Byte} {pp : Bool} {s t : State} (h : exec (.refreshFull buf pp) s = .next t)
    (hok : t.answer = okAnswer) : t.cfg = s.cfg ∧ t.mode = some (selectMode s .full pp) ∧
      t.orchMode = some (selectMode s .full pp) ∧ t.prc = countAfter (selectMode s .full pp) s.prc := by
  obtain ⟨hcfg, -⟩ := traceOnlyGrows _ s t h
  obtain ⟨-, u, hrun, rfl⟩ := doneOk_of_exec h hok
  exact ⟨hcfg, registers_of_refresh_done (t := u) hrun⟩

theorem selectMode_below {s : State} (m : Mode) (h : s.prc.toNat < s.cfg.partialLimit.toNat) :
    selectMode s m true = .part := by
  simp [selectMode, BitVec.lt_def, h]

theorem selectMode_at_limit {s : State} (m : Mode) (pp : Bool) (h : s.cfg.partialLimit.toNat ≤ s.prc.toNat) :
    selectMode s m pp = m := by
  simp [selectMode, BitVec.lt_def, h]

/-- A chain ends with one more call. -/
theorem refreshChain_last {buf : List Byte} {k : Nat} {s t : State} (h : refreshChain buf (k + 1) s t) :
    ∃ u, refreshChain buf k s u ∧ exec (.refreshFull buf true) u = .next t ∧ t.answer = okAnswer := by
  induction k generalizing s with
  | zero =>
    obtain ⟨u, hexec, hok, rfl⟩ := h
    exact ⟨s, rfl, hexec, hok⟩
  | succ k ih =>
    obtain ⟨v, hexec, hok, hrest⟩ := h
    obtain ⟨u, hchain, hlast⟩ := ih hrest
    exact ⟨u, ⟨v, hexec, hok, hchain⟩, hlast⟩

/-- Up to the limit a chain counts its calls. -/
theorem refreshChain_count {buf : List Byte} {k : Nat} {s t : State} (hzero : s.prc = 0)
    (hk : k ≤ s.cfg.partialLimit.toNat) (h : refreshChain buf k s t) : t.cfg = s.cfg ∧ t.prc.toNat = k := by
  induction k generalizing t with
  | zero =>
    cases h
    exact ⟨rfl, congrArg BitVec.toNat hzero⟩
  | succ k ih =>
    obtain ⟨u, hchain, hexec, hok⟩ := refreshChain_last h
    obtain ⟨hcfg, hcount⟩ := ih (by omega) hchain
    obtain ⟨hcfg', -, -, hprc⟩ := refreshFull_registers hexec hok
    refine ⟨hcfg'.trans hcfg, ?_⟩
    rw [selectMode_below .full (by rw [hcfg]; omega)] at hprc
    simp only [hprc, countAfter]
    bv_omega

/-- Settles O48: the last call of a chain finds as its count the number of calls before it. -/
theorem partialRefreshBound : Obligations.PartialRefreshBound := by
  refine fun s t buf k hzero => ⟨fun hpos hk h => ?_, fun hk h => ?_⟩
  · obtain ⟨j, rfl⟩ := Nat.exists_eq_add_one_of_ne_zero hpos.ne'
    obtain ⟨u, hchain, hexec, hok⟩ := refreshChain_last h
    obtain ⟨hcfg, hcount⟩ := refreshChain_count hzero (by omega) hchain
    obtain ⟨-, hmode, horch, -⟩ := refreshFull_registers hexec hok
    rw [selectMode_below .full (by rw [hcfg]; omega)] at hmode horch
    exact ⟨(refreshChain_count hzero hk h).2, hmode, horch⟩
  · subst hk
    obtain ⟨u, hchain, hexec, hok⟩ := refreshChain_last h
    obtain ⟨hcfg, hcount⟩ := refreshChain_count hzero le_rfl hchain
    obtain ⟨-, hmode, horch, hprc⟩ := refreshFull_registers hexec hok
    rw [selectMode_at_limit .full true (by rw [hcfg, hcount])] at hmode horch hprc
    exact ⟨hprc, hmode, horch⟩

end Sys2Proof.Machine
end

section
/-! PROOFS. The result classes: when an operation is Refused, and which errors its steps can raise (R250 to R256, R258). -/

namespace Sys2Proof.Machine

/-! ### Refused (R255) -/

/-- A plan answers Refused only from its entry test or its operand test, and then does nothing else (R258). -/
theorem runPlan_refused {p : Plan} {s : State} (h : (runPlan p s).answer = some .refused) :
    (s.st ∉ p.entry ∨ p.accepted = false) ∧ runPlan p s = refuse s := by
  rcases runPlan_cases p s with hrefused | ⟨-, -, -, t, -, hp⟩ | ⟨-, -, -, e, t, -, hp⟩ | ⟨-, -, e, -, hp⟩
  · exact hrefused
  · simp [hp] at h
  · simp [hp] at h
  · simp [hp] at h

/-- Settles O51: the wrapper tests the entry state and the operands, and nothing behind these tests answers Refused. -/
theorem refusedExactlyWhen : Obligations.RefusedExactlyWhen := by
  intro i s t hi h
  rw [exec_eq_runPlan] at h
  cases h
  rw [← plan_entry i s, ← plan_accepted_iff hi s, Bool.not_eq_true]
  exact ⟨⟨fun hans => (runPlan_refused hans).1, fun hfails => congrArg State.answer (hostOp_refused hfails)⟩,
    fun hans => (runPlan_refused hans).2⟩

/-- In a visible state only the operations marked for it in the table can be Refused (R256). -/
theorem canAnswer_refused {i : Instr} {s : State} (hs : s.st ∈ entryVisible)
    (h : s.st ∉ allowedEntry i ∨ ¬ operandsAccepted i s) : canAnswer i 5 = true := by
  have always (hno : s.st ∉ entryVisible ∨ ¬ True) : canAnswer i 5 = true := by simp [hs] at hno
  have anywhere (hno : s.st ∉ planPure.allStates ∨ ¬ True) : canAnswer i 5 = true := by simp [mem_allStates] at hno
  cases i
  case encMono => exact anywhere h
  case encGray => exact anywhere h
  case fpCompute => exact anywhere h
  case shouldUpdate => exact anywhere h
  case reset => exact always h
  case initFull => exact always h
  case initFast => exact always h
  case initPartial => exact always h
  case initGrayscale => exact always h
  all_goals rfl

/-! ### Errors (R251 to R254) -/

/-- The code of the error a step can raise; 0 where it raises none (R251 to R253). -/
def Action.raises (a : Action) : Nat :=
  match a with
  | .acquire => 1
  | .waitIdle _ => 2
  | .sendCmd _ | .sendData _ | .sendBulk _ => 3
  | .resetPulse | .beginTrigger | .markLutLoaded | .setMode _ | .delay _ | .endSession | .countRefresh _ | .store _ => 0

theorem raises_of_raised {a : Action} {s t : State} {e : Raise} (h : runAction a s = .raised e t) :
    a.raises = classCode (.error e) ∧ a.raises ≠ 0 := by
  rcases runAction_raised h with ⟨rfl, -, -, rfl, -⟩ | ⟨poll, rfl, rfl, -⟩ |
    ⟨l, bs, ⟨-, b, rfl, -⟩ | ⟨-, b, rfl, -⟩ | ⟨-, rfl⟩, rfl, -⟩ <;> exact ⟨rfl, nofun⟩

theorem raises_of_runAll_raised {as : List Action} {s t : State} {e : Raise} (h : runAll as s = .raised e t) :
    ∃ a ∈ as, a.raises = classCode (.error e) := by
  obtain ⟨pre, a, post, u, rfl, -, hraised⟩ := runAll_raised_cases h
  exact ⟨a, by simp, (raises_of_raised hraised).1⟩

theorem raises_le_three (a : Action) : a.raises ≤ 3 := by
  cases a <;> simp [Action.raises]

/-- Every step of a wire command is a transfer. -/
theorem raises_of_mem_wireActions {a : Action} {w : WireCommand} (h : a ∈ wireActions w) : a.raises = 3 := by
  simp only [wireActions, List.mem_cons, List.mem_map] at h
  rcases h with rfl | ⟨b, -, rfl⟩ <;> rfl

theorem raises_of_mem_setWindow {a : Action} {w : Window} (h : a ∈ setWindowActions w) : a.raises = 3 :=
  (List.mem_append.1 h).elim raises_of_mem_wireActions raises_of_mem_wireActions

theorem raises_of_mem_setCursor {a : Action} {x : BitVec 10} {y : BitVec 16} (h : a ∈ setCursorActions x y) :
    a.raises = 3 :=
  (List.mem_append.1 h).elim raises_of_mem_wireActions raises_of_mem_wireActions

theorem raises_of_mem_commands {a : Action} {ws : List WireCommand} (h : a ∈ ws.flatMap wireActions) : a.raises = 3 := by
  obtain ⟨w, -, hw⟩ := List.mem_flatMap.1 h
  exact raises_of_mem_wireActions hw

theorem raises_of_mem_loadLut {a : Action} {c : Config} (h : a ∈ loadLutActions c) : a.raises = 3 ∨ a.raises = 0 := by
  rw [loadLutActions_eq, List.mem_append, List.mem_singleton] at h
  rcases h with h | rfl
  · exact .inl (raises_of_mem_commands h)
  · exact .inr rfl

theorem raises_of_mem_sleep {a : Action} {c : Config} (h : a ∈ sleepActions c) : a.raises = 3 ∨ a.raises = 0 := by
  simp only [sleepActions, List.mem_append, List.mem_cons, List.not_mem_nil, or_false] at h
  rcases h with h | rfl | rfl
  · exact .inl (raises_of_mem_wireActions h)
  · exact .inr rfl
  · exact .inr rfl

theorem raises_of_mem_trigger {a : Action} {m : Mode} (h : a ∈ triggerActions m) :
    a.raises = 3 ∨ a.raises = 2 ∨ a.raises = 0 := by
  rw [triggerActions_eq, List.mem_append, List.mem_append, List.mem_singleton, List.mem_singleton] at h
  rcases h with (rfl | h) | rfl
  · exact .inr (.inr rfl)
  · exact .inl (raises_of_mem_commands h)
  · exact .inr (.inl rfl)

/-- OK is possible everywhere (R256). -/
theorem canAnswer_ok (i : Instr) : canAnswer i 0 = true := by
  cases i <;> rfl

/-- An operation marked for the three errors of the bus is marked for whatever a step raises. -/
theorem canAnswer_raises {i : Instr} (h : (canAnswer i 1 && canAnswer i 2 && canAnswer i 3) = true) (a : Action) :
    canAnswer i a.raises = true := by
  simp only [Bool.and_eq_true] at h
  obtain ⟨⟨h1, h2⟩, h3⟩ := h
  have := raises_le_three a
  interval_cases a.raises
  · exact canAnswer_ok i
  · exact h1
  · exact h2
  · exact h3

/-- The errors the steps of a host operation raise are marked in its row of the table (R256). -/
theorem canAnswer_of_mem_plan {i : Instr} {s : State} {a : Action} (hi : isHostOp i = true)
    (h : a ∈ (plan i s).actions) : canAnswer i a.raises = true := by
  have transfers (h3 : canAnswer i 3 = true) (ha : a.raises = 3 ∨ a.raises = 0) : canAnswer i a.raises = true := by
    rcases ha with ha | ha
    · rw [ha, h3]
    · rw [ha, canAnswer_ok]
  have triggers (h3 : canAnswer i 3 = true) (h2 : canAnswer i 2 = true)
      (ha : a.raises = 3 ∨ a.raises = 2 ∨ a.raises = 0) : canAnswer i a.raises = true := by
    rcases ha with ha | ha | ha
    · rw [ha, h3]
    · rw [ha, h2]
    · rw [ha, canAnswer_ok]
  cases i
  case encMono => cases h
  case encGray => cases h
  case repack => cases h
  case fpCompute => cases h
  case shouldUpdate => cases h
  case reset =>
    simp only [plan, planSteps, List.mem_cons, List.not_mem_nil, or_false] at h
    rcases h with rfl | rfl <;> rfl
  case waitIdle => rw [List.mem_singleton.1 h]; rfl
  case sendCmd => rw [List.mem_singleton.1 h]; rfl
  case sendData => rw [List.mem_singleton.1 h]; rfl
  case sendBulk => rw [List.mem_singleton.1 h]; rfl
  case setWindow => exact transfers rfl (.inl (raises_of_mem_setWindow h))
  case setCursor => exact transfers rfl (.inl (raises_of_mem_setCursor h))
  case loadLut => exact transfers rfl (raises_of_mem_loadLut h)
  case sleep => exact transfers rfl (raises_of_mem_sleep h)
  case triggerFull => exact triggers rfl rfl (raises_of_mem_trigger h)
  case triggerFast => exact triggers rfl rfl (raises_of_mem_trigger h)
  case triggerPartial => exact triggers rfl rfl (raises_of_mem_trigger h)
  case triggerGrayscale => exact triggers rfl rfl (raises_of_mem_trigger h)
  case initFull => exact canAnswer_raises rfl a
  case initFast => exact canAnswer_raises rfl a
  case initPartial => exact canAnswer_raises rfl a
  case initGrayscale => exact canAnswer_raises rfl a
  case refreshFull => exact canAnswer_raises rfl a
  case refreshFast => exact canAnswer_raises rfl a
  case refreshGrayscale => exact canAnswer_raises rfl a
  case updateFull => exact canAnswer_raises rfl a
  case updateFast => exact canAnswer_raises rfl a
  case updateGrayscale => exact canAnswer_raises rfl a
  all_goals cases hi

/-- An error found before the first step is that of an image of the wrong shape, and the operation is marked for it
(R254). -/
theorem plan_early_cases {i : Instr} {s : State} {e : Raise} (h : (plan i s).early = some e) :
    canAnswer i 4 = true ∧ ∃ img : Raster, e = .unsupportedImageDimensions img.iw img.ih := by
  have shape {img : Raster} (hshape : shapeError s.cfg img = some e) :
      ∃ img : Raster, e = .unsupportedImageDimensions img.iw img.ih := by
    unfold shapeError at hshape
    split at hshape <;> cases hshape
    exact ⟨img, rfl⟩
  cases i
  case encMono => exact ⟨rfl, shape h⟩
  case encGray => exact ⟨rfl, shape h⟩
  case updateFull => exact ⟨rfl, shape h⟩
  case updateFast => exact ⟨rfl, shape h⟩
  case updateGrayscale => exact ⟨rfl, shape h⟩
  all_goals cases h

/-- An error comes before the first step, or from a step; either way the abort follows at once (R257). -/
theorem exec_error_cases {i : Instr} {s t : State} {e : Raise} (h : exec i s = .next t)
    (hans : t.answer = some (.error e)) :
    ((plan i s).early = some e ∧ t = abort s.st e s) ∨
      ∃ u, runAll (plan i s).actions s = .raised e u ∧ t = abort s.st e u := by
  rw [exec_eq_runPlan] at h
  cases h
  rcases runPlan_cases (plan i s) s with ⟨-, hp⟩ | ⟨-, -, -, t, -, hp⟩ | ⟨-, -, -, e', t, hrun, hp⟩ | ⟨-, -, e', he, hp⟩
  · simp [hp] at hans
  · simp [hp] at hans
  · obtain rfl : e' = e := by simpa [hp] using hans
    exact .inr ⟨t, hrun, hp⟩
  · obtain rfl : e' = e := by simpa [hp] using hans
    exact .inl ⟨he, hp⟩

/-- Settles O52: OK is marked everywhere, Refused comes from the wrapper's tests, and an error from the shape test or from a
step. -/
theorem classesOfEachOperation : Obligations.ClassesOfEachOperation := by
  intro i s t a hi hs h hans
  cases a with
  | ok v => exact canAnswer_ok i
  | refused => exact canAnswer_refused hs ((refusedExactlyWhen i s t hi h).1.1 hans)
  | error e =>
    rcases exec_error_cases h hans with ⟨hearly, -⟩ | ⟨u, hrun, -⟩
    · obtain ⟨hmarked, img, rfl⟩ := plan_early_cases hearly
      exact hmarked
    · obtain ⟨b, hb, hclass⟩ := raises_of_runAll_raised hrun
      rw [← hclass]
      exact canAnswer_of_mem_plan hi hb

end Sys2Proof.Machine
end

section
/-! PROOFS. HardwareInitError: Acquire is the first step of every operation that takes the bus, and raises only there (R130,
R251). -/

namespace Sys2Proof.Machine

/-- RESET, INIT and REFRESH test nothing but their operands before their first step, Acquire (R130, R138, R200, R220). -/
theorem plan_acquires {i : Instr} (hi : setsBus i = true) (hupdate : isUpdate i = false) (s : State) :
    (plan i s).early = none ∧ ∃ rest, (plan i s).actions = .acquire :: rest := by
  cases i
  case reset => exact ⟨rfl, _, rfl⟩
  case initFull => exact ⟨rfl, _, rfl⟩
  case initFast => exact ⟨rfl, _, rfl⟩
  case initPartial => exact ⟨rfl, _, rfl⟩
  case initGrayscale => exact ⟨rfl, _, rfl⟩
  case refreshFull => exact ⟨rfl, _, rfl⟩
  case refreshFast => exact ⟨rfl, _, rfl⟩
  case refreshGrayscale => exact ⟨rfl, _, rfl⟩
  case updateFull => cases hupdate
  case updateFast => cases hupdate
  case updateGrayscale => cases hupdate
  all_goals cases hi

/-- An UPDATE with an image of a good shape and something to transmit finds no error before its first step, Acquire. -/
theorem planUpdate_acquires {m : Mode} {img : Raster} {pp force : Bool} {s : State} (hshape : shapeFits s.cfg img)
    (htransmit : force = true ∨ s.fpValid = false ∨ s.fp ≠ Config.fingerprint img) :
    (planUpdate m img pp force s).early = none ∧ ∃ rest, (planUpdate m img pp force s).actions = .acquire :: rest := by
  obtain ⟨o, ho⟩ := exists_orientation hshape
  exact ⟨shapeError_of_orientation ho, _, planUpdate_actions ((shouldUpdate_iff ..).2 htransmit) rfl⟩

/-- The updates are UPDATE of some content type. -/
theorem plan_of_isUpdate {i : Instr} (hi : isUpdate i = true) (s : State) :
    ∃ m img pp force, plan i s = planUpdate m img pp force s := by
  cases i
  case updateFull => exact ⟨_, _, _, _, rfl⟩
  case updateFast => exact ⟨_, _, _, _, rfl⟩
  case updateGrayscale => exact ⟨_, _, _, _, rfl⟩
  all_goals cases hi

/-- The operations that take the bus do it in their first step, if they have one. -/
theorem plan_starts_of_setsBus {i : Instr} (hi : setsBus i = true) (s : State) :
    (plan i s).actions = [] ∨ ∃ rest, (plan i s).actions = .acquire :: rest := by
  cases hupdate : isUpdate i with
  | false => exact .inr (plan_acquires hi hupdate s).2
  | true =>
    obtain ⟨m, img, pp, force, hplan⟩ := plan_of_isUpdate hupdate s
    rw [hplan]
    exact planUpdate_starts ..

/-- Only Acquire raises HardwareInitError, with the status of a ModInit that failed (R251). -/
theorem acquire_of_hardwareInit {a : Action} {s t : State} {n : Nat} (h : runAction a s = .raised (.hardwareInit n) t) :
    a = .acquire ∧ s.busHeld = false ∧ n ≠ 0 ∧ n = modInitStatus s ∧ t = modInitCall s := by
  rcases runAction_raised h with ⟨rfl, hbus, hstatus, he, rfl⟩ | ⟨poll, -, he, -⟩ | ⟨l, bs, -, he, -⟩
  · cases he; exact ⟨rfl, hbus, hstatus, rfl, rfl⟩
  · cases he
  · cases he

/-- HardwareInitError is raised by the first step of an operation: once Acquire is done the bus stays held, and a second
Acquire could not raise (R130, R251). -/
theorem hardwareInit_of_raised {i : Instr} {s t : State} {n : Nat}
    (h : runAll (plan i s).actions s = .raised (.hardwareInit n) t) :
    setsBus i = true ∧ s.busHeld = false ∧ n ≠ 0 ∧ n = modInitStatus s ∧ t = modInitCall s := by
  obtain ⟨pre, a, post, u, hsplit, hpre, hraised⟩ := runAll_raised_cases h
  obtain ⟨rfl, hbus, hne, hstatus, rfl⟩ := acquire_of_hardwareInit hraised
  have hi : setsBus i = true := by simpa [Action.common] using mem_plan (i := i) (s := s) (a := .acquire) (by simp [hsplit])
  refine ⟨hi, ?_⟩
  cases pre with
  | nil => cases hpre; exact ⟨hbus, hne, hstatus, rfl⟩
  | cons b pre =>
    obtain ⟨rest, hcons⟩ := (plan_starts_of_setsBus hi s).resolve_left (by simp [hsplit])
    obtain rfl : b = .acquire := (List.cons.inj (hsplit.symm.trans hcons)).1
    rcases runAll_acquire_cases pre s with ⟨v, hv, hrun⟩ | ⟨e, hrun⟩
    · have hheld := runAll_keeps_bus (i := i) (s := s) (as := pre) (by rintro rfl; cases hi)
        (fun b hb => by simp [hsplit, hb]) hv
      rw [hrun.symm.trans hpre] at hheld
      exact absurd (hheld.symm.trans hbus) nofun
    · cases hrun.symm.trans hpre

/-- An operation that begins with Acquire aborts there when ModInit fails: the trace gains `MI(s)`, the latches are `U`. -/
theorem exec_without_bus {i : Instr} {s : State} (hbus : ¬ busTakes s) (hs : s.st ∈ allowedEntry i)
    (hacc : (plan i s).accepted = true) (hearly : (plan i s).early = none)
    (hacquire : ∃ rest, (plan i s).actions = .acquire :: rest) :
    exec i s = .next (abort s.st (.hardwareInit (modInitStatus s)) (modInitCall s)) := by
  obtain ⟨rest, hcons⟩ := hacquire
  have hrun : runAll (plan i s).actions s = .raised (.hardwareInit (modInitStatus s)) (modInitCall s) := by
    rw [hcons]; exact runAll_cons_raised (acquire_fail s hbus)
  rw [exec_eq_runPlan, runPlan_raised ((plan_entry i s).symm ▸ hs) hacc hearly hrun]

/-- Settles O54: Acquire comes first, so its abort leaves `MI(s)` alone; and no other step raises this error. -/
theorem hardwareInitErrorComesFirst : Obligations.HardwareInitErrorComesFirst := by
  refine ⟨fun i s hbus hs haccepted hrow => ?_, fun i s t n h hans => ?_⟩
  · suffices hplan : isHostOp i = true ∧ allowedEntry i = entryVisible ∧ (plan i s).early = none ∧
        ∃ rest, (plan i s).actions = .acquire :: rest by
      obtain ⟨hi, hentry, hearly, hacquire⟩ := hplan
      exact exec_without_bus hbus (hentry ▸ hs) ((plan_accepted_iff hi s).2 haccepted) hearly hacquire
    simp only [List.mem_cons, List.not_mem_nil, or_false] at hrow
    rcases hrow with (rfl | rfl | rfl | rfl | rfl) | ⟨buf, pp, rfl | rfl | rfl⟩ |
      ⟨img, pp, force, rfl | rfl | rfl, hshape, htransmit⟩
    · exact ⟨rfl, rfl, plan_acquires rfl rfl s⟩
    · exact ⟨rfl, rfl, plan_acquires rfl rfl s⟩
    · exact ⟨rfl, rfl, plan_acquires rfl rfl s⟩
    · exact ⟨rfl, rfl, plan_acquires rfl rfl s⟩
    · exact ⟨rfl, rfl, plan_acquires rfl rfl s⟩
    · exact ⟨rfl, rfl, plan_acquires rfl rfl s⟩
    · exact ⟨rfl, rfl, plan_acquires rfl rfl s⟩
    · exact ⟨rfl, rfl, plan_acquires rfl rfl s⟩
    · exact ⟨rfl, rfl, planUpdate_acquires hshape htransmit⟩
    · exact ⟨rfl, rfl, planUpdate_acquires hshape htransmit⟩
    · exact ⟨rfl, rfl, planUpdate_acquires hshape htransmit⟩
  · rcases exec_error_cases h hans with ⟨hearly, -⟩ | ⟨u, hrun, -⟩
    · obtain ⟨-, img, hshape⟩ := plan_early_cases hearly
      cases hshape
    · obtain ⟨hi, hbus, hne, -⟩ := hardwareInit_of_raised hrun
      exact ⟨hi, hbus, hne⟩

end Sys2Proof.Machine
end

section
/-! PROOFS. What the steps before a raise have put on the wire, and in what order an operation marks the table and writes its
mode (R18, R31, R184, R200, R223, R225). -/

namespace Sys2Proof

/-- A command in a stream ends the command before it, and begins its own (R79). -/
theorem cutItems_append_command (xs : List WireItem) (op : Byte) (ys : List WireItem) :
    cutItems (xs ++ .c op :: ys) = ((cutItems xs).1, (cutItems xs).2 ++ ⟨op, (cutItems ys).1⟩ :: (cutItems ys).2) := by
  induction xs with
  | nil => rfl
  | cons x xs ih => cases x <;> simp [cutItems, ih]

/-- The opcode of a command that is cut off stands in the stream. -/
theorem op_mem_of_mem_cutItems {w : WireCommand} {xs : List WireItem} (h : w ∈ (cutItems xs).2) : .c w.op ∈ xs := by
  induction xs with
  | nil => cases h
  | cons x xs ih =>
    cases x with
    | d b => exact .tail _ (ih h)
    | c op =>
      rcases List.mem_cons.1 h with rfl | h
      · exact .head _
      · exact .tail _ (ih h)

/-- A stream that does not begin with a data item has no part that does. -/
theorem cutItems_fst_of_append {xs ys : List WireItem} (h : (cutItems (xs ++ ys)).1 = []) : (cutItems xs).1 = [] := by
  cases xs with
  | nil => rfl
  | cons x xs =>
    cases x with
    | c op => rfl
    | d b => cases h

end Sys2Proof

namespace Sys2Proof.Machine

/-! ### Items on the wire -/

/-- The items a step puts on the wire when it is done (R31, R132, R134, R136). -/
def Action.items (a : Action) : List WireItem :=
  match a with
  | .sendCmd op => [.c op]
  | .sendData b => [.d b]
  | .sendBulk bs => bs.map .d
  | _ => []

theorem command_mem_items {as : List Action} {b : Byte} : .c b ∈ as.flatMap Action.items ↔ .sendCmd b ∈ as := by
  have hstep (a : Action) : .c b ∈ a.items ↔ a = .sendCmd b := by
    cases a <;> simp [Action.items, eq_comm]
  simp [List.mem_flatMap, hstep]

/-- From `s` to `t` the trace has gained events that put `items` on the wire, whatever the level of DC before. -/
def PutsOnWire (items : List WireItem) (s t : State) : Prop :=
  ∃ evs, t.trace = s.trace ++ evs ∧ ∀ l, wireFrom l evs = items

theorem PutsOnWire.trans {xs ys : List WireItem} {s t u : State} (h : PutsOnWire xs s t) (k : PutsOnWire ys t u) :
    PutsOnWire (xs ++ ys) s u := by
  obtain ⟨evs, htrace, hitems⟩ := h
  obtain ⟨evs', htrace', hitems'⟩ := k
  exact ⟨evs ++ evs', by rw [htrace', htrace, List.append_assoc], fun l => by rw [wireFrom_append, hitems, hitems']⟩

theorem putsNothing {evs : List Event} {s t : State} (htrace : t.trace = s.trace ++ evs)
    (h : ∀ e ∈ evs, e.isXfer = false) : PutsOnWire [] s t :=
  ⟨evs, htrace, wireFrom_of_no_xfer h⟩

theorem putsNothing_of_same_trace {s t : State} (htrace : t.trace = s.trace) : PutsOnWire [] s t :=
  putsNothing (evs := []) (by rw [htrace, List.append_nil]) nofun

theorem waitIdle_putsNothing (poll : Nat) (s : State) : PutsOnWire [] s (runState (waitIdleHelper poll s)) := by
  rcases waitMeetsIdle_or_waitTimesOut s with ⟨n, hbound, hidle⟩ | hbusy
  · rw [waitIdle_ok poll n s hbound hidle]
    exact putsNothing rfl (pollsWithin_evWait poll n).no_xfer
  · rw [waitIdle_timeout poll s hbusy]
    exact putsNothing rfl (pollsWithin_evTimeout poll _).no_xfer

theorem acquire_putsNothing (s : State) : PutsOnWire [] s (runState (acquire s)) := by
  have hmodInit : ∀ e ∈ [Event.modInit (modInitStatus s)], e.isXfer = false := by simp [Event.isXfer]
  unfold acquire
  split_ifs
  · exact putsNothing_of_same_trace rfl
  · exact putsNothing rfl hmodInit
  · exact putsNothing rfl hmodInit

theorem send_done_putsOnWire {d : St} {l : Level} {bs : List Byte} {s t : State} (h : send d l bs s = .done t) :
    PutsOnWire (itemsOf (some l) bs) s t := by
  cases hspi : spiSucceeds s with
  | true =>
    cases (send_ok d l bs s hspi).symm.trans h
    exact ⟨evTransfer l bs, rfl, fun k => by simp [evTransfer, wireFrom]⟩
  | false => cases (send_fail d l bs s hspi).symm.trans h

/-- A step that is done puts its items on the wire. -/
theorem runAction_done_putsOnWire {a : Action} {s t : State} (h : runAction a s = .done t) :
    PutsOnWire a.items s t := by
  cases a with
  | sendCmd op => exact send_done_putsOnWire h
  | sendData b => exact send_done_putsOnWire h
  | sendBulk bs => exact send_done_putsOnWire h
  | acquire => have := acquire_putsNothing s; rwa [show acquire s = .done t from h] at this
  | waitIdle poll => have := waitIdle_putsNothing poll s; rwa [show waitIdleHelper poll s = .done t from h] at this
  | resetPulse => cases h; exact putsNothing (resetPulse_trace s) (by decide)
  | delay n => cases h; exact putsNothing (evs := [.delay n]) rfl (by simp [Event.isXfer])
  | endSession => cases h; exact putsNothing (evs := [.modExit]) rfl (by decide)
  | countRefresh m => cases h; exact putsNothing_of_same_trace (by simp)
  | beginTrigger => cases h; exact putsNothing_of_same_trace rfl
  | markLutLoaded => cases h; exact putsNothing_of_same_trace rfl
  | setMode m => cases h; exact putsNothing_of_same_trace rfl
  | store d => cases h; exact putsNothing_of_same_trace rfl

theorem runAll_done_putsOnWire {as : List Action} {s t : State} (h : runAll as s = .done t) :
    PutsOnWire (as.flatMap Action.items) s t := by
  induction as generalizing s with
  | nil => cases h; exact putsNothing_of_same_trace rfl
  | cons a as ih =>
    cases hstep : runAction a s with
    | raised e u => rw [runAll_cons_raised hstep] at h; cases h
    | done u =>
      rw [runAll_cons_done hstep] at h
      exact (runAction_done_putsOnWire hstep).trans (ih h)

/-- A step that raises puts nothing on the wire: a transfer that fails gives no item (R31, R133). -/
theorem runAction_raised_putsNothing {a : Action} {s t : State} {e : Raise} (h : runAction a s = .raised e t) :
    PutsOnWire [] s t := by
  rcases runAction_raised h with ⟨rfl, -, -, -, rfl⟩ | ⟨poll, rfl, -, -⟩ | ⟨l, bs, -, -, -, -, htrace⟩
  · exact putsNothing (evs := [.modInit (modInitStatus s)]) rfl (by simp [Event.isXfer])
  · have := waitIdle_putsNothing poll s
    rwa [show waitIdleHelper poll s = .raised e t from h] at this
  · exact putsNothing htrace (by simp [evFailed, Event.isXfer])

/-! ### A raise among the steps -/

/-- A step that raises is not a given quiet one, so it comes before that one or after it. -/
theorem raise_before_or_after {pre post xs zs : List Action} {a x : Action} (h : xs ++ x :: zs = pre ++ a :: post)
    (ha : a ≠ x) : (∃ ys, xs = pre ++ a :: ys) ∨ ∃ ys, pre = xs ++ x :: ys ∧ zs = ys ++ a :: post := by
  rcases List.append_eq_append_iff.1 h with ⟨ys, hpre, hrest⟩ | ⟨ys, hxs, hrest⟩
  · cases ys with
    | nil => exact absurd (List.cons.inj hrest).1.symm ha
    | cons y ys =>
      obtain ⟨rfl, hzs⟩ := List.cons.inj hrest
      exact .inr ⟨ys, hpre, hzs⟩
  · cases ys with
    | nil => exact absurd (List.cons.inj hrest).1 ha
    | cons y ys =>
      obtain ⟨rfl, -⟩ := List.cons.inj hrest
      exact .inl ⟨ys, hxs⟩

/-- The steps before a raise are not among the quiet last ones. -/
theorem mem_front_of_raise {front tail pre post : List Action} {a b : Action} (h : front ++ tail = pre ++ a :: post)
    (htail : ∀ x ∈ tail, x.raises = 0) (ha : a.raises ≠ 0) (hb : b ∈ pre) : b ∈ front := by
  rcases List.append_eq_append_iff.1 h with ⟨ys, rfl, rfl⟩ | ⟨ys, rfl, -⟩
  · exact absurd (htail a (by simp)) ha
  · exact List.mem_append_left _ hb

/-! ### The parts of an initialisation and of a refresh -/

/-- The steps of an initialisation before its last act. -/
def initFront (c : Config) (m : Mode) (loaded : Bool) : List Action :=
  [.acquire, .resetPulse, .waitIdle 20] ++ (initBlocks c m loaded).flatMap Block.actions

/-- The steps of a refresh after its first frame command and before the count. -/
def refreshBack (c : Config) (m : Mode) (buf : List Byte) : List Action :=
  (frameTransfers c m buf).tail ++ triggerActions m

section Parts
variable {a : Action} {c : Config} {m : Mode} {loaded : Bool} {buf : List Byte}

theorem initActions_eq_front : initActions c loaded m = initFront c m loaded ++ [.setMode m] := by
  rw [initActions_eq_blocks, initFront, List.append_assoc]

theorem frameTransfers_eq_cons : frameTransfers c m buf = .sendCmd 0x24 :: (frameTransfers c m buf).tail := by
  cases m <;> rfl

theorem refreshActions_eq_parts : refreshActions c loaded m buf =
    initFront c m loaded ++ .setMode m :: .sendCmd 0x24 :: (refreshBack c m buf ++ [.countRefresh m]) := by
  rw [refreshActions, initActions_eq_front, frameTransfers_eq_cons, refreshBack]
  simp

theorem mem_blockActions {b : Block} (h : a ∈ b.actions) :
    a.common = true ∨ (a = .markLutLoaded ∧ b.mark = true) := by
  simp only [Block.actions, List.mem_append, List.mem_singleton] at h
  rcases h with h | h | rfl
  · exact .inl (wires_common h)
  · split_ifs at h with hmark
    · exact .inr ⟨List.mem_singleton.1 h, hmark⟩
    · cases h
  · exact .inl rfl

/-- An initialisation marks the table only when its mode needs it and it has not been loaded (R205). -/
theorem mem_initFront (h : a ∈ initFront c m loaded) :
    a.common = true ∨ a = .acquire ∨ (a = .markLutLoaded ∧ m = .grayscale ∧ loaded = false) := by
  rcases List.mem_append.1 h with h | h
  · simp only [List.mem_cons, List.not_mem_nil, or_false] at h
    rcases h with rfl | rfl | rfl
    · exact .inr (.inl rfl)
    · exact .inl rfl
    · exact .inl rfl
  · obtain ⟨b, hb, ha⟩ := List.mem_flatMap.1 h
    refine (mem_blockActions ha).imp id fun ⟨hmark, hbmark⟩ => .inr ⟨hmark, ?_⟩
    have hany : (initBlocks c m loaded).any Block.mark = true := List.any_eq_true.2 ⟨b, hb, hbmark⟩
    cases m <;> cases loaded <;> simp [initBlocks] at hany ⊢

theorem sendCmd_mem_initFront {b : Byte} (h : .sendCmd b ∈ initFront c m loaded) : b ∈ initOpcodes m loaded :=
  sendCmd_mem_init (by rw [initActions_eq_front]; exact List.mem_append_left _ h)

theorem mem_refreshBack_common (h : a ∈ refreshBack c m buf) : a.common = true :=
  (List.mem_append.1 h).elim (fun h => mem_frameTransfers_common (List.mem_of_mem_tail h)) mem_triggerActions_common

theorem sendCmd_mem_refreshBack {b : Byte} (h : .sendCmd b ∈ refreshBack c m buf) : b ∈ [0x26, 0x22, 0x20] := by
  rcases List.mem_append.1 h with h | h
  · cases m <;> simp [frameTransfers, frameActions, cmdRamPlane2, opRamPlane2] at h ⊢
    exact .inl h
  · exact .tail _ (sendCmd_mem_trigger h)

end Parts

/-! ### The table and its mark (R18, R184) -/

/-- Wherever a step raises, the table has been marked if and only if its last command is on the wire whole. -/
def MarksTable (c : Config) (as : List Action) : Prop :=
  ∀ pre a post, as = pre ++ a :: post → a ≠ .markLutLoaded →
    (.markLutLoaded ∈ pre ↔ (⟨0x2C, [c.lut[109]]⟩ : WireCommand) ∈ (cutItems (pre.flatMap Action.items)).2)

theorem MarksTable.of_append {c : Config} {as bs : List Action} (h : MarksTable c (as ++ bs)) : MarksTable c as := by
  rintro pre a post rfl ha
  exact h pre a (post ++ bs) (by simp) ha

/-- Before its payload VCOM is not on the wire whole. -/
theorem vcom_not_mem_cutItems {xs pre : List Action} {b : Byte} (hcmd : .sendCmd 0x2C ∉ xs)
    (hpre : pre <+: xs ++ [.sendCmd 0x2C]) : ⟨0x2C, [b]⟩ ∉ (cutItems (pre.flatMap Action.items)).2 := by
  intro h
  rcases List.prefix_concat_iff.1 hpre with rfl | hshort
  · rw [List.flatMap_append, show [Action.sendCmd 0x2C].flatMap Action.items = [.c 0x2C] from rfl,
      cutItems_append_command, List.mem_append] at h
    rcases h with h | h
    · exact hcmd (command_mem_items.1 (op_mem_of_mem_cutItems h))
    · simp [cutItems] at h
  · exact hcmd (hshort.subset (command_mem_items.1 (op_mem_of_mem_cutItems h)))

/-- With its payload VCOM is on the wire whole, unless more data follows. -/
theorem vcom_mem_cutItems (xs : List Action) {ys : List Action} {b : Byte}
    (hys : (cutItems (ys.flatMap Action.items)).1 = []) :
    ⟨0x2C, [b]⟩ ∈ (cutItems ((xs ++ [Action.sendCmd 0x2C, .sendData b] ++ ys).flatMap Action.items)).2 := by
  have hitems : (xs ++ [Action.sendCmd 0x2C, .sendData b] ++ ys).flatMap Action.items =
      xs.flatMap Action.items ++ .c 0x2C :: .d b :: ys.flatMap Action.items := by simp [Action.items]
  rw [hitems, cutItems_append_command]
  simp [cutItems, hys]

/-- Steps that mark the table directly after its last command, and then go on with a command or send nothing. -/
theorem marksTable_of_order {c : Config} {xs zs : List Action} (hcmd : .sendCmd 0x2C ∉ xs) (hmark : .markLutLoaded ∉ xs)
    (hzs : (cutItems (zs.flatMap Action.items)).1 = []) :
    MarksTable c (xs ++ wireActions (cmdVcom c) ++ .markLutLoaded :: zs) := by
  intro pre a post hsplit ha
  have hvcom : wireActions (cmdVcom c) = [.sendCmd 0x2C] ++ [.sendData c.lut[109]] := by rw [cmdVcom_eq]; rfl
  rw [hvcom] at hsplit
  rcases raise_before_or_after hsplit ha with ⟨ys, hbefore⟩ | ⟨ys, rfl, rfl⟩
  · have hpre : pre <+: xs ++ [.sendCmd 0x2C] := by
      rw [← List.append_assoc] at hbefore
      rcases List.prefix_concat_iff.1 ⟨_, hbefore.symm⟩ with heq | hpre
      · simp [heq] at hbefore
      · exact hpre
    exact iff_of_false (fun h => by simpa [hmark] using hpre.subset h) (vcom_not_mem_cutItems hcmd hpre)
  · rw [List.flatMap_append] at hzs
    exact iff_of_true (by simp)
      (vcom_mem_cutItems xs (ys := .markLutLoaded :: ys) (cutItems_fst_of_append hzs))

/-- Steps that neither mark the table nor send its last command. -/
theorem marksTable_of_not_mem {c : Config} {as : List Action} (hcmd : .sendCmd 0x2C ∉ as) (hmark : .markLutLoaded ∉ as) :
    MarksTable c as :=
  .of_append (bs := wireActions (cmdVcom c) ++ [.markLutLoaded])
    (by rw [← List.append_assoc]; exact marksTable_of_order hcmd hmark rfl)

/-- The commands of an initialisation that loads the table, but the last, before those of one that finds it loaded. -/
theorem initFront_grayscale (c : Config) : initFront c .grayscale false =
    (initFront c .grayscale true ++ (listLut c).dropLast.flatMap wireActions) ++ wireActions (cmdVcom c) ++
      [.markLutLoaded, .waitIdle 20] := by
  simp [initFront, initBlocks, Block.actions, Block.all, cmdVcom_eq, listLut]

/-- An initialisation, and what follows it, marks the table in order. -/
theorem marksTable_init {c : Config} {m : Mode} {zs : List Action} (hcmd : .sendCmd 0x2C ∉ zs)
    (hmark : .markLutLoaded ∉ zs) (hzs : (cutItems (zs.flatMap Action.items)).1 = []) :
    MarksTable c (initFront c m false ++ .setMode m :: zs) := by
  by_cases hm : m = .grayscale
  · subst hm
    rw [initFront_grayscale, List.append_assoc]
    refine marksTable_of_order (fun h => ?_) (fun h => ?_) hzs
    · rcases List.mem_append.1 h with h | h
      · exact absurd (sendCmd_mem_initFront h) (by decide)
      · simpa [listLut] using sendCmd_mem_commands.1 h
    · rcases List.mem_append.1 h with h | h
      · simpa [Action.common] using mem_initFront h
      · cases wires_common h
  · refine marksTable_of_not_mem (fun h => ?_) fun h => ?_
    · have hfront := (List.mem_append.1 h).resolve_right (by simpa using hcmd)
      have hopcode := sendCmd_mem_initFront hfront
      revert hopcode
      cases m with
      | grayscale => exact absurd rfl hm
      | full => decide
      | fast => decide
      | part => decide
    · have hfront := (List.mem_append.1 h).resolve_right (by simpa using hmark)
      simpa [Action.common, hm] using mem_initFront hfront

/-! ### The mode and the frame (R200, R223) -/

/-- Wherever a step raises in an initialisation or in a refresh behind it, the mode has been written if and only if the first
frame command has been sent or is what raises. -/
theorem setMode_mem_iff_frame {c : Config} {m : Mode} {loaded : Bool} {pre post zs : List Action} {a : Action}
    (hsplit : initFront c m loaded ++ .setMode m :: .sendCmd 0x24 :: zs = pre ++ a :: post) (ha : a ≠ .setMode m) :
    .setMode m ∈ pre ↔ .sendCmd 0x24 ∈ pre ∨ a = .sendCmd 0x24 := by
  rcases raise_before_or_after hsplit ha with ⟨ys, hbefore⟩ | ⟨ys, rfl, hzs⟩
  · have hno : .sendCmd 0x24 ∉ initFront c m loaded := fun h => by
      have hopcode := sendCmd_mem_initFront h
      revert hopcode
      cases m <;> cases loaded <;> decide
    have hmode : .setMode m ∉ initFront c m loaded := fun h => by simpa [Action.common] using mem_initFront h
    rw [hbefore] at hno hmode
    simp only [List.mem_append, List.mem_cons, not_or] at hno hmode
    exact iff_of_false hmode.1 (not_or.2 ⟨hno.1, fun h => hno.2.1 h.symm⟩)
  · refine iff_of_true (by simp) ?_
    cases ys with
    | nil => exact .inr (List.cons.inj hzs).1.symm
    | cons y ys =>
      obtain ⟨rfl, -⟩ := List.cons.inj hzs
      exact .inl (by simp)

end Sys2Proof.Machine
end

section
/-! PROOFS. The abort: where the steps of an operation stop, what they have written by then, and how the trace ends (R139,
R225, R251 to R254, R257). -/

namespace Sys2Proof.Machine

/-! ### The steps of a REFRESH and of an UPDATE -/

/-- A refresh in mode `m`, perhaps with a store after it: the initialisation, its mode, the first frame command, the rest of
the refresh, and last the acts that cannot raise (R220, R229). -/
def RunsRefresh (c : Config) (loaded : Bool) (m : Mode) (as : List Action) : Prop :=
  ∃ buf tail, as = initFront c m loaded ++ .setMode m :: .sendCmd 0x24 :: (refreshBack c m buf ++ tail) ∧
    ∀ a ∈ tail, a = .countRefresh m ∨ ∃ d, a = .store d

theorem runsRefresh_refresh (c : Config) (loaded : Bool) (m : Mode) (buf : List Byte) :
    RunsRefresh c loaded m (refreshActions c loaded m buf) :=
  ⟨buf, [.countRefresh m], refreshActions_eq_parts, by simp⟩

theorem runsRefresh_update (m : Mode) (img : Raster) (pp force : Bool) (s : State) :
    (planUpdate m img pp force s).actions = [] ∨
      RunsRefresh s.cfg s.lutLoaded (selectMode s m pp) (planUpdate m img pp force s).actions := by
  cases htransmit : shouldUpdate s (Config.fingerprint img) force with
  | false => exact .inl (by simp [planUpdate, htransmit])
  | true =>
    obtain ⟨buf, tail, hsteps, htail⟩ := runsRefresh_refresh s.cfg s.lutLoaded (selectMode s m pp)
      (encodedBuffer s.cfg img (encodeFor m))
    refine .inr ⟨buf, tail ++ [.store (Config.fingerprint img)], ?_, ?_⟩
    · rw [planUpdate_actions htransmit rfl, show (planRefresh m _ pp s).actions = _ from hsteps]
      simp
    · simpa [or_imp, forall_and] using htail

theorem runsRefresh_of_asked {i : Instr} {m : Mode} {pp : Bool} (h : askedMode i = some (m, pp)) (s : State) :
    (plan i s).actions = [] ∨ RunsRefresh s.cfg s.lutLoaded (selectMode s m pp) (plan i s).actions := by
  cases i
  case refreshFull => cases h; exact .inr (runsRefresh_refresh ..)
  case refreshFast => cases h; exact .inr (runsRefresh_refresh ..)
  case refreshGrayscale => cases h; exact .inr (runsRefresh_refresh ..)
  case updateFull => cases h; exact runsRefresh_update ..
  case updateFast => cases h; exact runsRefresh_update ..
  case updateGrayscale => cases h; exact runsRefresh_update ..
  all_goals cases h

/-! ### Which steps come before a raise -/

/-- The mode a REFRESH or an UPDATE runs in (R221). -/
def modeOf (i : Instr) (s : State) : Option Mode :=
  (askedMode i).map fun asked => selectMode s asked.1 asked.2

/-- The steps that can come before one that raises, in an operation that runs in the mode `asked` if it has one. -/
def BeforeRaise (asked : Option Mode) (a : Action) : Prop :=
  a.common = true ∨ a = .acquire ∨ a = .markLutLoaded ∨ ∃ m, asked = some m ∧ a = .setMode m

theorem BeforeRaise.of_initFront {asked : Option Mode} {a : Action} {c : Config} {m : Mode} {loaded : Bool}
    (h : a ∈ initFront c m loaded) : BeforeRaise asked a :=
  (mem_initFront h).imp id (Or.imp id fun h => .inl h.1)

/-- Steps that can come before a raise, then a tail that cannot raise. -/
def QuietTail (asked : Option Mode) (as : List Action) : Prop :=
  ∃ front tail, as = front ++ tail ∧ (∀ a ∈ front, BeforeRaise asked a) ∧ ∀ a ∈ tail, a.raises = 0

theorem quietTail_init (c : Config) (loaded : Bool) (m : Mode) : QuietTail none (initActions c loaded m) :=
  ⟨_, [.setMode m], initActions_eq_front, fun _ h => .of_initFront h, by simp [Action.raises]⟩

theorem quietTail_sleep (c : Config) : QuietTail none (sleepActions c) := by
  refine ⟨wireActions cmdDeepSleep ++ [.delay c.sleepDelayMs], [.endSession], by simp [sleepActions], fun a h => .inl ?_,
    by simp [Action.raises]⟩
  rcases List.mem_append.1 h with h | h
  · exact mem_wireActions_common h
  · rw [List.mem_singleton.1 h]; rfl

theorem quietTail_of_runsRefresh {c : Config} {loaded : Bool} {m : Mode} {as : List Action}
    (h : RunsRefresh c loaded m as) : QuietTail (some m) as := by
  obtain ⟨buf, tail, rfl, htail⟩ := h
  refine ⟨initFront c m loaded ++ .setMode m :: .sendCmd 0x24 :: refreshBack c m buf, tail, by simp, fun a ha => ?_,
    fun a ha => ?_⟩
  · simp only [List.mem_append, List.mem_cons] at ha
    rcases ha with ha | rfl | rfl | ha
    · exact .of_initFront ha
    · exact .inr (.inr (.inr ⟨m, rfl, rfl⟩))
    · exact .inl rfl
    · exact .inl (mem_refreshBack_common ha)
  · rcases htail a ha with rfl | ⟨d, rfl⟩ <;> rfl

/-- An operation that does not write the mode has no tail: it only sends, waits, takes the bus and marks the table. -/
theorem quietTail_of_writesMode_eq_false {i : Instr} (hi : writesMode i = false) (asked : Option Mode) (s : State) :
    QuietTail asked (plan i s).actions := by
  have hcount : writesCount i = false ∧ isUpdate i = false := by
    revert hi
    cases i <;> simp [writesMode, writesCount, isUpdate]
  refine ⟨_, [], (List.append_nil _).symm, fun a ha => ?_, nofun⟩
  rcases mem_plan ha with h | ⟨rfl, -⟩ | ⟨rfl, -⟩ | ⟨-, h⟩ | ⟨-, rfl⟩ | ⟨-, h⟩ | ⟨-, h⟩
  · exact .inl h
  · exact .inr (.inl rfl)
  · exact .inr (.inr (.inl rfl))
  · cases hi.symm.trans h
  · cases hi
  · cases hcount.1.symm.trans h
  · cases hcount.2.symm.trans h

/-- The last acts of an operation cannot raise: an INIT writes the mode, a refresh is counted and its digest stored, SLEEP ends
the session (R188, R200, R220, R229). -/
theorem quietTail_plan (i : Instr) (s : State) : QuietTail (modeOf i s) (plan i s).actions := by
  cases hasked : askedMode i with
  | some asked =>
    have hmode : modeOf i s = some (selectMode s asked.1 asked.2) := by rw [modeOf, hasked]; rfl
    rcases runsRefresh_of_asked hasked s with hnil | hruns
    · exact ⟨[], [], hnil, nofun, nofun⟩
    · rw [hmode]; exact quietTail_of_runsRefresh hruns
  | none =>
    cases hi : writesMode i with
    | false => exact quietTail_of_writesMode_eq_false hi _ s
    | true =>
      cases i
      case initFull => exact quietTail_init ..
      case initFast => exact quietTail_init ..
      case initPartial => exact quietTail_init ..
      case initGrayscale => exact quietTail_init ..
      case sleep => exact quietTail_sleep _
      case refreshFull => cases hasked
      case refreshFast => cases hasked
      case refreshGrayscale => cases hasked
      case updateFull => cases hasked
      case updateFast => cases hasked
      case updateGrayscale => cases hasked
      all_goals cases hi

/-! ### The order of the table and its mark in every plan -/

/-- VCOM, the last command of the table, is sent by the operations that load it, and by the two that send one command. -/
theorem sends_vcom_cases {i : Instr} {s : State} (h : .sendCmd 0x2C ∈ (plan i s).actions) :
    setsLut i = true ∨ i = .sendCmd 0x2C ∨ i = .wireVcomRegister := by
  cases hi : isHostOp i with
  | true =>
    have hmay := mayCommand_of_mem_plan hi h
    cases i
    case sendCmd op => exact .inr (.inl (congrArg Instr.sendCmd (eq_of_beq hmay).symm))
    case loadLut => exact .inl rfl
    case initGrayscale => exact .inl rfl
    case refreshGrayscale => exact .inl rfl
    case updateGrayscale => exact .inl rfl
    all_goals exact absurd hmay (Bool.eq_false_iff.1 rfl)
  | false =>
    cases i
    case wireVcomRegister => exact .inr (.inr rfl)
    case wireWriteBwRamPlane1 => exact absurd (sendCmd_mem_frameActions.1 h) (ne_of_beq_false rfl)
    case wireWriteBwRamPlane2 => exact absurd (sendCmd_mem_frameActions.1 h) (ne_of_beq_false rfl)
    case wireDriverOutputControl | wireDataEntryMode | wireResetDeepSleep | wireSetRamXWindow | wireSetRamYWindow |
        wireBorderWaveform | wireBoosterSoftStart | wireTempSensorSelect | wireSetRamXAddrCounter |
        wireSetRamYAddrCounter | wireDisplayUpdateControl2 | wireMasterActivation | wireWriteLutRegister |
        wireGateLineEnd | wireGateDrivingVoltage | wireDeepSleep =>
      exact absurd (sendCmd_mem_wireActions.1 h) (ne_of_beq_false rfl)
    all_goals cases hi

theorem marksTable_loadLut (c : Config) : MarksTable c (loadLutActions c) := by
  refine marksTable_of_order (zs := []) (fun h => ?_) (fun h => ?_) rfl
  · simp [cmdLut, opLut, cmdGateLineEnd, opGateLineEnd, cmdGateVoltage, opGateVoltage] at h
  · simp only [List.mem_append] at h
    rcases h with (h | h) | h <;> cases mem_wireActions_common h

theorem marksTable_of_runsRefresh {c : Config} {m : Mode} {as : List Action} (h : RunsRefresh c false m as) :
    MarksTable c as := by
  obtain ⟨buf, tail, rfl, htail⟩ := h
  refine marksTable_init (fun h => ?_) (fun h => ?_) rfl
  · simp only [List.mem_cons, List.mem_append] at h
    rcases h with h | h | h
    · exact absurd h (by decide)
    · exact absurd (sendCmd_mem_refreshBack h) (by decide)
    · simpa using htail _ h
  · simp only [List.mem_cons, List.mem_append, reduceCtorEq, false_or] at h
    rcases h with h | h
    · cases mem_refreshBack_common h
    · simpa using htail _ h

/-- The first steps of VCOM, or all of them, asked for on their own. -/
theorem marksTable_vcom {c : Config} {as bs : List Action} (h : wireActions (cmdVcom c) = as ++ bs) :
    MarksTable c as := by
  refine .of_append (bs := bs ++ [.markLutLoaded]) ?_
  rw [← List.append_assoc, ← h]
  exact marksTable_of_order (xs := []) (zs := []) nofun nofun rfl

/-- Every operation that begins with the table not loaded marks it in order. -/
theorem marksTable_plan (i : Instr) {s : State} (hlut : s.lutLoaded = false) :
    MarksTable s.cfg (plan i s).actions := by
  cases hset : setsLut i with
  | false =>
    by_cases hvcom : .sendCmd 0x2C ∈ (plan i s).actions
    · rcases sends_vcom_cases hvcom with h | rfl | rfl
      · cases hset.symm.trans h
      · exact marksTable_vcom (bs := (cmdVcom s.cfg).payload.map .sendData) rfl
      · exact marksTable_vcom (List.append_nil _).symm
    · refine marksTable_of_not_mem hvcom fun h => ?_
      simpa [Action.common, hset] using mem_plan h
  | true =>
    have refresh {m : Mode} {as : List Action} (h : as = [] ∨ RunsRefresh s.cfg s.lutLoaded m as) :
        MarksTable s.cfg as := by
      rcases h with rfl | h
      · exact marksTable_of_not_mem nofun nofun
      · exact marksTable_of_runsRefresh (hlut ▸ h)
    cases i
    case loadLut => exact marksTable_loadLut s.cfg
    case initGrayscale =>
      rw [plan, planSteps, hlut, initActions_eq_front]
      exact marksTable_init nofun nofun rfl
    case refreshGrayscale buf pp => exact refresh (runsRefresh_of_asked (m := .grayscale) (pp := pp) rfl s)
    case updateGrayscale img pp force => exact refresh (runsRefresh_of_asked (m := .grayscale) (pp := pp) rfl s)
    all_goals cases hset

end Sys2Proof.Machine
end

section
/-! PROOFS. What an operation that aborts has written and how its trace ends (R251 to R254, R257). -/

namespace Sys2Proof.Machine

/-! ### The registers after the steps before a raise -/

/-- What steps that come before a raise have done to the registers that are not read off the trace, in an operation that runs
in the mode `asked` if it has one. -/
structure AfterSteps (asked : Option Mode) (as : List Action) (s t : State) : Prop where
  count : t.prc = s.prc ∧ t.orchMode = s.orchMode
  record : t.fp = s.fp ∧ t.fpValid = s.fpValid
  lut : t.lutLoaded = true ↔ s.lutLoaded = true ∨ .markLutLoaded ∈ as
  mode : (t.mode = s.mode ∧ ∀ m, .setMode m ∉ as) ∨ ∃ m, asked = some m ∧ .setMode m ∈ as ∧ t.mode = some m

theorem AfterSteps.append {asked : Option Mode} {as bs : List Action} {s t u : State} (h : AfterSteps asked as s t)
    (k : AfterSteps asked bs t u) : AfterSteps asked (as ++ bs) s u where
  count := ⟨k.count.1.trans h.count.1, k.count.2.trans h.count.2⟩
  record := ⟨k.record.1.trans h.record.1, k.record.2.trans h.record.2⟩
  lut := by rw [k.lut, h.lut, List.mem_append, or_assoc]
  mode := by
    rcases k.mode with ⟨hkept, hno⟩ | ⟨m, hasked, hmem, hset⟩
    · rcases h.mode with ⟨hkept', hno'⟩ | ⟨m, hasked, hmem, hset⟩
      · exact .inl ⟨hkept.trans hkept', fun m hm => (List.mem_append.1 hm).elim (hno' m) (hno m)⟩
      · exact .inr ⟨m, hasked, List.mem_append_left _ hmem, hkept.trans hset⟩
    · exact .inr ⟨m, hasked, List.mem_append_right _ hmem, hset⟩

/-- Steps that are neither the mark nor a mode, and that leave the registers alone. -/
theorem afterSteps_of_same {asked : Option Mode} {as : List Action} {s t : State} (hmark : .markLutLoaded ∉ as)
    (hset : ∀ m, .setMode m ∉ as) (h : t.mode = s.mode ∧ t.lutLoaded = s.lutLoaded ∧ t.prc = s.prc ∧
      t.orchMode = s.orchMode ∧ t.fp = s.fp ∧ t.fpValid = s.fpValid) : AfterSteps asked as s t := by
  obtain ⟨hmode, hlut, hprc, horch, hrecord⟩ := h
  exact ⟨⟨hprc, horch⟩, hrecord, by simp [hlut, hmark], .inl ⟨hmode, hset⟩⟩

theorem common_same {a : Action} (h : a.common = true) (s : State) :
    (runState (runAction a s)).mode = s.mode ∧ (runState (runAction a s)).lutLoaded = s.lutLoaded ∧
      (runState (runAction a s)).prc = s.prc ∧ (runState (runAction a s)).orchMode = s.orchMode ∧
      (runState (runAction a s)).fp = s.fp ∧ (runState (runAction a s)).fpValid = s.fpValid := by
  obtain ⟨hmode, hlut, -, hrest⟩ := common_fields h s
  exact ⟨hmode, hlut, hrest⟩

theorem runAction_afterSteps {asked : Option Mode} {a : Action} (h : BeforeRaise asked a) (s : State) :
    AfterSteps asked [a] s (runState (runAction a s)) := by
  rcases h with hcommon | rfl | rfl | ⟨m, rfl, rfl⟩
  · refine afterSteps_of_same (fun h => ?_) (fun m h => ?_) (common_same hcommon s)
    · rw [← List.mem_singleton.1 h] at hcommon; cases hcommon
    · rw [← List.mem_singleton.1 h] at hcommon; cases hcommon
  · obtain ⟨hmode, hlut, -, hrest⟩ := acquire_fields s
    exact afterSteps_of_same (by simp) (by simp) ⟨hmode, hlut, hrest⟩
  · exact ⟨⟨rfl, rfl⟩, ⟨rfl, rfl⟩, iff_of_true rfl (.inr (.head _)), .inl ⟨rfl, by simp⟩⟩
  · exact ⟨⟨rfl, rfl⟩, ⟨rfl, rfl⟩, by simp [runAction, runState], .inr ⟨m, rfl, .head _, rfl⟩⟩

theorem runAll_done_afterSteps {asked : Option Mode} {as : List Action} {s t : State}
    (has : ∀ a ∈ as, BeforeRaise asked a) (h : runAll as s = .done t) : AfterSteps asked as s t := by
  induction as generalizing s with
  | nil => cases h; exact afterSteps_of_same nofun nofun ⟨rfl, rfl, rfl, rfl, rfl, rfl⟩
  | cons a as ih =>
    obtain ⟨ha, has⟩ := List.forall_mem_cons.1 has
    have hstep := runAction_afterSteps ha s
    cases hrun : runAction a s with
    | raised e u => rw [runAll_cons_raised hrun] at h; cases h
    | done u =>
      rw [runAll_cons_done hrun] at h
      rw [hrun] at hstep
      exact hstep.append (ih has h)

/-- The step that raises leaves the registers alone. -/
theorem runAction_raised_afterSteps {asked : Option Mode} {a : Action} {s t : State} {e : Raise}
    (h : runAction a s = .raised e t) : AfterSteps asked [] s t := by
  have hsame : t = modInitCall s ∨ a.common = true := by
    rcases runAction_raised h with ⟨-, -, -, -, rfl⟩ | ⟨poll, rfl, -⟩ |
      ⟨l, bs, ⟨-, b, rfl, -⟩ | ⟨-, b, rfl, -⟩ | ⟨-, rfl⟩, -⟩
    · exact .inl rfl
    · exact .inr rfl
    · exact .inr rfl
    · exact .inr rfl
    · exact .inr rfl
  rcases hsame with rfl | hcommon
  · exact afterSteps_of_same nofun nofun ⟨rfl, rfl, rfl, rfl, rfl, rfl⟩
  · have := common_same hcommon s
    rw [h] at this
    exact afterSteps_of_same nofun nofun this

/-! ### An operation that stops -/

/-- The operation `i` stops in `t` with the error `e` after its steps `pre`: what they have written, what they have put on the
wire, and that the table's mark and the mode are among them when the wire says so. -/
structure StopsAfter (i : Instr) (s : State) (e : Raise) (pre : List Action) (t : State) : Prop where
  registers : AfterSteps (modeOf i s) pre s t
  items : PutsOnWire (pre.flatMap Action.items) s t
  table : s.lutLoaded = false → (.markLutLoaded ∈ pre ↔
    (⟨0x2C, [s.cfg.lut[109]]⟩ : WireCommand) ∈ (cutItems (pre.flatMap Action.items)).2)
  frame : ∀ m, modeOf i s = some m → (.setMode m ∈ pre ↔ .sendCmd 0x24 ∈ pre ∨ e = .busTransaction .l0 [0x24])

theorem raised_sendCmd_iff {a : Action} {s t : State} {e : Raise} (h : runAction a s = .raised e t) (b : Byte) :
    a = .sendCmd b ↔ e = .busTransaction .l0 [b] := by
  rcases runAction_raised h with ⟨rfl, -, -, rfl, -⟩ | ⟨poll, rfl, rfl, -⟩ |
    ⟨l, bs, ⟨rfl, b', rfl, rfl⟩ | ⟨rfl, b', rfl, rfl⟩ | ⟨rfl, rfl⟩, rfl, -⟩ <;> simp

theorem modeOf_eq_some {i : Instr} {s : State} {k : Mode} (h : modeOf i s = some k) :
    ∃ m pp, askedMode i = some (m, pp) ∧ k = selectMode s m pp := by
  obtain ⟨⟨m, pp⟩, hasked, rfl⟩ := Option.map_eq_some_iff.1 h
  exact ⟨m, pp, hasked, rfl⟩

/-- An operation that stops at a step has done the steps before it, none of them a last act. -/
theorem stopsAfter_of_raised {i : Instr} {s t : State} {e : Raise} (h : runAll (plan i s).actions s = .raised e t) :
    ∃ pre, StopsAfter i s e pre t := by
  obtain ⟨pre, a, post, u, hsplit, hpre, hraised⟩ := runAll_raised_cases h
  obtain ⟨front, tail, hplan, hfront, htail⟩ := quietTail_plan i s
  have hraises := (raises_of_raised hraised).2
  have hbefore : ∀ b ∈ pre, BeforeRaise (modeOf i s) b := fun b hb =>
    hfront b (mem_front_of_raise (hplan.symm.trans hsplit) htail hraises hb)
  exact ⟨pre, {
    registers := by
      simpa using (runAll_done_afterSteps hbefore hpre).append (runAction_raised_afterSteps hraised)
    items := by
      simpa using (runAll_done_putsOnWire hpre).trans (runAction_raised_putsNothing hraised)
    table := fun hlut => marksTable_plan i hlut pre a post hsplit fun hmark => hraises (by rw [hmark]; rfl)
    frame := fun k hk => by
      obtain ⟨m, pp, hasked, rfl⟩ := modeOf_eq_some hk
      obtain ⟨buf, tail, hsteps, -⟩ := (runsRefresh_of_asked hasked s).resolve_left (by simp [hsplit])
      rw [setMode_mem_iff_frame (hsteps.symm.trans hsplit) fun hmode => hraises (by rw [hmode]; rfl),
        raised_sendCmd_iff hraised] }⟩

/-- An operation that finds its error before its first step has done none. -/
theorem stopsAfter_early {i : Instr} {s : State} {e : Raise} (h : (plan i s).early = some e) : StopsAfter i s e [] s := by
  obtain ⟨-, img, rfl⟩ := plan_early_cases h
  exact {
    registers := afterSteps_of_same nofun nofun ⟨rfl, rfl, rfl, rfl, rfl, rfl⟩
    items := putsNothing_of_same_trace rfl
    table := fun _ => iff_of_false nofun nofun
    frame := fun _ _ => iff_of_false nofun (by simp) }

/-- The wrapper writes nothing but `S.st` and the answer. -/
theorem StopsAfter.aborted {i : Instr} {s t : State} {e : Raise} {pre : List Action} (h : StopsAfter i s e pre t) :
    StopsAfter i s e pre (abort s.st e t) :=
  ⟨⟨h.registers.count, h.registers.record, h.registers.lut, h.registers.mode⟩, h.items, h.table, h.frame⟩

theorem stopsAfter_of_exec {i : Instr} {s t : State} {e : Raise} (h : exec i s = .next t)
    (hans : t.answer = some (.error e)) : ∃ pre, StopsAfter i s e pre t := by
  rcases exec_error_cases h hans with ⟨hearly, rfl⟩ | ⟨u, hrun, rfl⟩
  · exact ⟨[], (stopsAfter_early hearly).aborted⟩
  · obtain ⟨pre, hstops⟩ := stopsAfter_of_raised hrun
    exact ⟨pre, hstops.aborted⟩

section Stops
variable {i : Instr} {s t : State} {e : Raise} {pre : List Action} {more : List Event}

theorem StopsAfter.wire_eq (h : StopsAfter i s e pre t) (htrace : t.trace = s.trace ++ more) :
    wire more = pre.flatMap Action.items := by
  obtain ⟨evs, hevs, hitems⟩ := h.items
  obtain rfl : evs = more := List.append_cancel_left (hevs.symm.trans htrace)
  exact hitems none

/-- `S.lutLoaded` is set if and only if it was at entry or the whole table went out (R18, R257). -/
theorem StopsAfter.lutLoaded_iff (h : StopsAfter i s e pre t) (htrace : t.trace = s.trace ++ more) :
    t.lutLoaded = true ↔ s.lutLoaded = true ∨ tableSent s.cfg more := by
  rw [h.registers.lut, tableSent, h.wire_eq htrace]
  cases hlut : s.lutLoaded with
  | true => simp
  | false => rw [h.table hlut]

/-- An operation that has reached its frame has written the mode it runs in, and no other has written a mode (R225). -/
theorem StopsAfter.mode_of_asked (h : StopsAfter i s e pre t) (htrace : t.trace = s.trace ++ more) {m : Mode}
    {pp : Bool} (hasked : askedMode i = some (m, pp)) :
    (frameReached e more → t.mode = some (actualMode m pp s)) ∧ (¬ frameReached e more → t.mode = s.mode) := by
  have hmode : modeOf i s = some (selectMode s m pp) := by rw [modeOf, hasked]; rfl
  rw [frameReached, h.wire_eq htrace, command_mem_items, ← h.frame _ hmode, actualMode_eq_selectMode]
  rcases h.registers.mode with ⟨hkept, hno⟩ | ⟨k, hk, hmem, hset⟩
  · exact ⟨fun hmem => absurd hmem (hno _), fun _ => hkept⟩
  · obtain rfl : selectMode s m pp = k := Option.some.inj (hmode.symm.trans hk)
    exact ⟨fun _ => hset, fun hno => absurd hmem hno⟩

theorem StopsAfter.mode_of_not_asked (h : StopsAfter i s e pre t) (hasked : askedMode i = none) : t.mode = s.mode := by
  rcases h.registers.mode with ⟨hkept, -⟩ | ⟨m, hm, -⟩
  · exact hkept
  · rw [modeOf, hasked] at hm; cases hm

end Stops

/-! ### The last event of an abort (R251 to R254) -/

/-- The trace after a step that raised is the trace before it and the events of that step. -/
theorem last_events_of_raised {as : List Action} {s t : State} {e : Raise} (h : runAll as s = .raised e t) :
    ∃ a u evs, runAction a u = .raised e t ∧ u.trace = s.trace ++ evs ∧ u.cfg = s.cfg := by
  obtain ⟨pre, a, post, u, -, hpre, hraised⟩ := runAll_raised_cases h
  obtain ⟨evs, htrace, hcfg, -⟩ := runAll_trace pre s
  rw [hpre] at htrace hcfg
  exact ⟨a, u, evs, hraised, htrace, hcfg⟩

section LastEvent
variable {i : Instr} {s t : State} {more : List Event}

theorem hardwareInit_last_event {n : Nat} (h : exec i s = .next t) (hans : t.answer = some (.error (.hardwareInit n)))
    (htrace : t.trace = s.trace ++ more) : n ≠ 0 ∧ more = [.modInit n] ∧ t.busHeld = false := by
  rcases exec_error_cases h hans with ⟨hearly, -⟩ | ⟨u, hrun, rfl⟩
  · obtain ⟨-, img, hshape⟩ := plan_early_cases hearly
    cases hshape
  · obtain ⟨-, hbus, hne, rfl, rfl⟩ := hardwareInit_of_raised hrun
    exact ⟨hne, List.append_cancel_left (htrace.symm.trans rfl), hbus⟩

theorem deviceNotResponding_last_event {n : Nat} (h : exec i s = .next t)
    (hans : t.answer = some (.error (.deviceNotResponding n))) (htrace : t.trace = s.trace ++ more) :
    n = busyMaxPolls s.cfg ∧ ∃ evs, more = evs ++ [.readBusy .l1] := by
  rcases exec_error_cases h hans with ⟨hearly, -⟩ | ⟨u, hrun, rfl⟩
  · obtain ⟨-, img, hshape⟩ := plan_early_cases hearly
    cases hshape
  · obtain ⟨a, v, xs, hraised, hbefore, hcfg⟩ := last_events_of_raised hrun
    rcases runAction_raised hraised with ⟨-, -, -, he, -⟩ | ⟨poll, -, he, ys, hys⟩ | ⟨l, bs, -, he, -⟩
    · cases he
    · cases he
      refine ⟨by rw [hcfg], xs ++ ys, List.append_cancel_left (htrace.symm.trans ?_)⟩
      rw [abort_trace, hys, hbefore]
      simp
    · cases he

theorem busTransaction_last_event {l : Level} {bs : List Byte} (h : exec i s = .next t)
    (hans : t.answer = some (.error (.busTransaction l bs))) (htrace : t.trace = s.trace ++ more) :
    t.pinCs = some .l0 ∧ t.pinDc = some l ∧ ∃ evs, more = evs ++ evFailed l bs := by
  rcases exec_error_cases h hans with ⟨hearly, -⟩ | ⟨u, hrun, rfl⟩
  · obtain ⟨-, img, hshape⟩ := plan_early_cases hearly
    cases hshape
  · obtain ⟨a, v, xs, hraised, hbefore, -⟩ := last_events_of_raised hrun
    rcases runAction_raised hraised with ⟨-, -, -, he, -⟩ | ⟨poll, -, he, -⟩ | ⟨l', bs', -, he, hcs, hdc, hfailed⟩
    · cases he
    · cases he
    · cases he
      refine ⟨hcs, hdc, xs, List.append_cancel_left (htrace.symm.trans ?_)⟩
      rw [abort_trace, hfailed, hbefore, List.append_assoc]

theorem unsupportedImage_no_event {iw ih : Nat} (h : exec i s = .next t)
    (hans : t.answer = some (.error (.unsupportedImageDimensions iw ih))) (htrace : t.trace = s.trace ++ more) :
    more = [] := by
  rcases exec_error_cases h hans with ⟨-, rfl⟩ | ⟨u, hrun, -⟩
  · exact List.append_right_eq_self.1 htrace.symm
  · obtain ⟨a, v, -, hraised, -⟩ := last_events_of_raised hrun
    rcases runAction_raised hraised with ⟨-, -, -, he, -⟩ | ⟨poll, -, he, -⟩ | ⟨l, bs, -, he, -⟩ <;> cases he

end LastEvent

/-- Settles O53: the steps before the raise are none of the last acts, the table's mark and the mode are among them exactly
when the wire says so, the bus handle and the latches are read off the trace, and its last event is the one that failed. -/
theorem abortRestoresOnlyTheState : Obligations.AbortRestoresOnlyTheState := by
  intro i s t e h hans
  obtain ⟨more, hrec⟩ := exec_records h
  obtain ⟨pre, hstops⟩ := stopsAfter_of_exec h hans
  obtain ⟨hprc, horch⟩ := hstops.registers.count
  obtain ⟨hfp, hvalid⟩ := hstops.registers.record
  have hst : t.st = s.st := by
    rcases exec_error_cases h hans with ⟨-, rfl⟩ | ⟨u, -, rfl⟩ <;> rfl
  refine ⟨more, hrec.trace, hst, hprc, horch, hfp, hvalid, hrec.handle, hstops.lutLoaded_iff hrec.trace,
    hstops.mode_of_not_asked, fun m pp hasked => hstops.mode_of_asked hrec.trace hasked, hrec.rst, hrec.dc, hrec.cs, ?_⟩
  cases e with
  | hardwareInit n => exact hardwareInit_last_event h hans hrec.trace
  | deviceNotResponding n => exact deviceNotResponding_last_event h hans hrec.trace
  | busTransaction l bs => exact busTransaction_last_event h hans hrec.trace
  | unsupportedImageDimensions iw ih => exact unsupportedImage_no_event h hans hrec.trace

end Sys2Proof.Machine
end

section
/-! PROOFS. What a step does when no operation is presented: it idles on an empty inbox, and a restart re-establishes the
reset state (R33, R280, R285). -/

namespace Sys2Proof.Machine

/-- With nothing presented there is nothing to fetch. -/
theorem fetch_of_empty_inbox {s : State} (hinbox : s.inbox = []) : fetch s = .idle := by
  simp [fetch, hinbox]

/-- A restart decodes to no instruction: it is fetched as itself, and taken off the inbox. -/
theorem fetch_of_restart {s : State} {rest : List Request} (hinbox : s.inbox = .restart :: rest) :
    fetch s = .restart { s with inbox := rest } := by
  simp [fetch, hinbox, decodeRequest, takeRequest]

/-- The core does nothing until something is presented (R280). -/
theorem step_of_empty_inbox {s : State} (hinbox : s.inbox = []) : step s = .next s := by
  simp [step, fetch_of_empty_inbox hinbox]

/-- A presented restart restarts the core, at the state with that request taken (R280, R285). -/
theorem step_of_restart {s : State} {rest : List Request} (hinbox : s.inbox = .restart :: rest) :
    step s = .next (restartCore { s with inbox := rest }) := by
  simp [step, fetch_of_restart hinbox]

/-- Settles O12: an empty inbox fetches nothing, and a restart is fetched and leaves R33's values (log entries 4, 5, 12). -/
theorem idleAndRestart : Obligations.IdleAndRestart :=
  ⟨fun _ hinbox => step_of_empty_inbox hinbox, fun _ _ hinbox => step_of_restart hinbox⟩

end Sys2Proof.Machine
end
